-- ==== Sys2Proof/Word.lean ====
section
/-! DEFINITION. The widths of the block's data (spec 00_scope.md R7, 20_memory.md R79) and the names of the two
display strings (10_state.md R53). -/

namespace Sys2Proof

/-- One byte of a bus transfer or of a buffer (R79). -/
abbrev Byte := BitVec 8

/-- A command word or a response word: `WORD` = 32 bits (R7). -/
abbrev Word := BitVec 32

/-- A display character: 7 bits (R14, R237). -/
abbrev Char7 := BitVec 7

/-- The two display strings `STR[0]` (splash text) and `STR[1]` (companion-address text) (R53). -/
inductive DisplayString where
  | splash
  | companion
deriving DecidableEq, Repr

end Sys2Proof
end

