-- ==== Sys2Proof/Config.lean ====
section
/-! DEFINITION. The implementation parameters of 00_scope.md R7, the range each must lie in (R7, R261, R292), and the
one value the spec leaves free at every use (R140). -/

namespace Sys2Proof

/-- The parameters an implementation fixes (R7). They are carried in the state and no step writes them, so a statement
about every state is a statement about every configuration. -/
structure Config where
  /-- `RX_CAP`: receive scratch capacity in bytes. -/
  rxCap : Nat
  /-- `Q_CAP`: inbound FIFO capacity in words. -/
  qCap : Nat
  /-- `MCLK`: the waveform chip's reference clock in Hz. -/
  mclk : Nat
deriving DecidableEq, Repr

/-- `TX_CAP` = 4 bytes, one response word (R7). -/
def txCap : Nat := 4

/-- `STR_CAP` = 17 bytes (R7, R53). -/
def strCap : Nat := 17

/-- The configuration `State.reset` carries. `RX_CAP` = 8 is the spec's default (R7).
DESIGN CHOICE (log entry 1), unsafe: `Q_CAP` = 4 and `MCLK` = 25,000,000 are OPEN in the spec (D3, D4); these are the
values its test vectors use. -/
def Config.reference : Config := { rxCap := 8, qCap := 4, mclk := 25000000 }

/-- The byte the slave sends at the `n`-th overrun read: "a fresh draw of any byte at each overrun" (R140, D9).
A free value (log entry 4), safe: it has no body, so nothing can be proved of it. -/
opaque Config.overrunByte : Nat → Byte

end Sys2Proof
end

