-- ==== Sys2Proof/Syntax.lean ====
section
/-! DEFINITION. The command set: one constructor for each row of spec/opcode_table.json (30_encoding.md R101). The
operands of a constructor are the fields of the word that some formula of the command reads (R102 to R106); bits no
formula reads are ignored (R114) and are no operand. -/

namespace Sys2Proof

/-- A command of the block. -/
inductive Instr where
  /-- `SETWAVE`, tag 0: `hi` is bits 5:4 (`w5 w4`), `lo` is bits 2:1 (`w2 w1`) (R102). -/
  | setwave (hi lo : BitVec 2)
  /-- `SETFREQ`, tag 1: `reg` is bits 28:0, all 29 of them (R103). -/
  | setfreq (reg : BitVec 29)
  /-- `IGN2`, tag 2: no fields (R106). -/
  | ign2
  /-- `IGN3`, tag 3: no fields (R106). -/
  | ign3
  /-- `IGN4`, tag 4: no fields (R106). -/
  | ign4
  /-- `QUERY`, tag 5: no operand (R104). -/
  | query
  /-- `IGN6`, tag 6: no fields (R106). -/
  | ign6
  /-- `STRCHUNK`, tag 7: target string (bit 25), slot (bits 23:21), the three characters (bits 20:14, 13:7 and 6:0)
  (R105). -/
  | strchunk (target : DisplayString) (slot : BitVec 3) (cA cB cC : Char7)
deriving DecidableEq, Repr

end Sys2Proof
end

