-- ==== Sys2Proof/WellFormed.lean ====
section
/-! DEFINITION. What may be refused before the machine runs. No command is ever ill-formed (30_encoding.md R115: "No
32-bit word is illegal"); a configuration outside its range is (60_exceptions.md R292), and so is a text too long for
the pseudo-instruction `SETSTR` (30_encoding.md R118). -/

namespace Sys2Proof

/-- Every value of every operand of every command is encodable and legal: the operands' types hold exactly the fields'
values, a `STRCHUNK` with slot 5, 6 or 7 included (R115). -/
def Instr.wellFormed : Instr → Bool
  | .setwave _ _ => true
  | .setfreq _ => true
  | .ign2 => true
  | .ign3 => true
  | .ign4 => true
  | .query => true
  | .ign6 => true
  | .strchunk _ _ _ _ _ => true

/-- `RX_CAP` ≥ 1 (R7, R292). -/
def Config.rxCapOk (c : Config) : Bool := decide (1 ≤ c.rxCap)

/-- `Q_CAP` ≥ 1 (R7, R292). -/
def Config.qCapOk (c : Config) : Bool := decide (1 ≤ c.qCap)

/-- `MCLK` is at least 268,436 Hz and below 2^53 Hz (R261). -/
def Config.mclkOk (c : Config) : Bool := decide (268436 ≤ c.mclk) && decide (c.mclk < 2 ^ 53)

/-- The configurations the model has a meaning for (R261, R292). -/
def Config.valid (c : Config) : Bool := c.rxCapOk && c.qCapOk && c.mclkOk

/-- The texts `SETSTR` takes: at most 15 characters (R118, R238). -/
def textFits (text : List Char7) : Bool := decide (text.length ≤ 15)

end Sys2Proof
end

