-- ==== Sys2Proof/Decode.lean ====
section
/-! DEFINITION. Decoding and encoding of command words (30_encoding.md R100 to R106, R114 to R119), and the byte order
of the bytes that carry them (20_memory.md R72). Every field is taken out of a word here and nowhere else. -/

namespace Sys2Proof

/-! ### Bytes and words -/

/-- Four bytes in arrival order make a word, "most-significant byte first" (R72). -/
def wordOfBytes (b0 b1 b2 b3 : Byte) : Word :=
  b0.setWidth 32 <<< 24 ||| b1.setWidth 32 <<< 16 ||| b2.setWidth 32 <<< 8 ||| b3.setWidth 32

/-- The four bytes of a word in the order they are sent to the block, most significant first (R72, R117). -/
def bytesOfWord (w : Word) : List Byte :=
  [w.extractLsb' 24 8, w.extractLsb' 16 8, w.extractLsb' 8 8, w.extractLsb' 0 8]

/-! ### Fields -/

/-- `tag = word >> 29` (R100). -/
def wordTag (w : Word) : BitVec 3 := w.extractLsb' 29 3

/-- `payload = word[28:0]` (R100); the whole of it is the operand `reg` of `SETFREQ` (R103). -/
def wordPayload (w : Word) : BitVec 29 := w.extractLsb' 0 29

/-- Bits 5:4 of a tag-0 word (R102). -/
def wordHi (w : Word) : BitVec 2 := w.extractLsb' 4 2

/-- Bits 2:1 of a tag-0 word (R102). -/
def wordLo (w : Word) : BitVec 2 := w.extractLsb' 1 2

/-- `chunkTarget`: bit 25 selects the string, 0 = splash, 1 = companion-address (R105, R230). -/
def chunkTarget (w : Word) : DisplayString := if w.getLsbD 25 then .companion else .splash

/-- `chunkSlot`: bits 23:21 (R105, R230). -/
def chunkSlot (w : Word) : BitVec 3 := w.extractLsb' 21 3

/-- `chunkChar(w,0)`: bits 20:14 (R105, R230). -/
def chunkCharA (w : Word) : Char7 := w.extractLsb' 14 7

/-- `chunkChar(w,1)`: bits 13:7 (R105, R230). -/
def chunkCharB (w : Word) : Char7 := w.extractLsb' 7 7

/-- `chunkChar(w,2)`: bits 6:0 (R105, R230). -/
def chunkCharC (w : Word) : Char7 := w.extractLsb' 0 7

/-! ### Decode -/

/-- The decoder is total on the 2^32 words: one exhaustive match on the tag (R101, R115, R201). -/
def decode (w : Word) : Instr :=
  match wordTag w with
  | 0#3 => .setwave (wordHi w) (wordLo w)
  | 1#3 => .setfreq (wordPayload w)
  | 2#3 => .ign2
  | 3#3 => .ign3
  | 4#3 => .ign4
  | 5#3 => .query
  | 6#3 => .ign6
  | 7#3 => .strchunk (chunkTarget w) (chunkSlot w) (chunkCharA w) (chunkCharB w) (chunkCharC w)

/-- Why bytes are no command. -/
inductive DecodeError where
  /-- A command is exactly four bytes (R77, R116); this many were given. Safe. -/
  | notOneWord (bytes : Nat)
deriving DecidableEq, Repr

/-- The decoder on any bytes: one word of four bytes decodes, any other number of bytes is rejected by name
(R77, R116). -/
def decodeBytes : List Byte → Except DecodeError Instr
  | [b0, b1, b2, b3] => .ok (decode (wordOfBytes b0 b1 b2 b3))
  | bs => .error (.notOneWord bs.length)

/-! ### Encode -/

/-- A word from its tag and payload: `t << 29 | p` (R100, R117). -/
def commandWord (tag : BitVec 3) (payload : BitVec 29) : Word := tag.setWidth 32 <<< 29 ||| payload.setWidth 32

/-- Bit 25 of a `STRCHUNK` word for a target string (R105). -/
def targetBit : DisplayString → BitVec 1
  | .splash => 0
  | .companion => 1

/-- The encoder, from the formats of R102 to R106; every bit no formula reads is written as 0 (R114). The `STRCHUNK`
row is the formula of `packChunk` (R117, R235). -/
def encode : Instr → Word
  | .setwave hi lo => commandWord 0 (hi.setWidth 29 <<< 4 ||| lo.setWidth 29 <<< 1)
  | .setfreq reg => commandWord 1 reg
  | .ign2 => commandWord 2 0
  | .ign3 => commandWord 3 0
  | .ign4 => commandWord 4 0
  | .query => commandWord 5 0
  | .ign6 => commandWord 6 0
  | .strchunk target slot cA cB cC =>
    commandWord 7 ((targetBit target).setWidth 29 <<< 25 ||| slot.setWidth 29 <<< 21 ||| cA.setWidth 29 <<< 14 |||
      cB.setWidth 29 <<< 7 ||| cC.setWidth 29)

/-- The bits of a command that some formula reads: the tag and the operand fields (R102 to R106, R114). -/
def readMask : Instr → Word
  | .setwave _ _ => 0xE0000036
  | .setfreq _ => 0xFFFFFFFF
  | .ign2 => 0xE0000000
  | .ign3 => 0xE0000000
  | .ign4 => 0xE0000000
  | .query => 0xE0000000
  | .ign6 => 0xE0000000
  | .strchunk _ _ _ _ _ => 0xE2FFFFFF

/-- The match value of a command's row of the opcode map, under the mask 0xE0000000 (R119). -/
def rowMatch : Instr → Word
  | .setwave _ _ => 0x00000000
  | .setfreq _ => 0x20000000
  | .ign2 => 0x40000000
  | .ign3 => 0x60000000
  | .ign4 => 0x80000000
  | .query => 0xA0000000
  | .ign6 => 0xC0000000
  | .strchunk _ _ _ _ _ => 0xE0000000

/-! ### The opcode table's words -/

/-- The word an opcode-table entry of `nbits` bits stands for; its bits above `nbits` are 0. -/
def tableWord (nbits w : Nat) : Word := BitVec.ofNat 32 (w % 2 ^ nbits)

/-- What the decoder reads from an opcode-table entry laid out as the bus carries it, most significant byte first
(R72). No command is longer than 32 bits (R116). -/
def decodeTableWord (nbits w : Nat) : Option Instr :=
  if nbits ≤ 32 then (decodeBytes (bytesOfWord (tableWord nbits w))).toOption else none

end Sys2Proof
end

