-- ==== Sys2Proof/Machine/State.lean ====
section
/-! DEFINITION. The state of the block (10_state.md), its power-on value (R56), the events and operations its agents
take (R130, R297; R120: "A model takes them as constructors of an operation type"), and the reasons a step can stop. -/

namespace Sys2Proof.Machine

/-- `BUS_STATE` (R34). -/
inductive BusState where
  | idle
  | addressedAsReceiver
  | addressedAsTransmitter
deriving DecidableEq, Repr

/-- `WAVE`: the device's wave type (R50). -/
inductive Wave where
  | square
  | sine
  | triangle
  | none
deriving DecidableEq, Repr

/-- The local error conditions logged in `EVENTS` (R58, R291). -/
inductive ErrorEvent where
  | receiveOverflow
  | malformedTransaction
  | queueSaturated
  | unknownTag
  | invalidStringSlot
  | busError
deriving DecidableEq, Repr

/-- The master's acknowledge of a read byte (R130). -/
inductive MasterAck where
  | mack
  | mnack
deriving DecidableEq, Repr

/-- The byte-level bus events produced by the bus master (R130). -/
inductive BusEvent where
  | addrW (a : BitVec 7)
  | addrR (a : BitVec 7)
  | rxByte (b : Byte)
  | txByte (m : MasterAck)
  | term
  | busErr
deriving DecidableEq, Repr

/-- The slave's answer to a bus event (R130); `silent` is the table's `none`: not taking part, or not driving. -/
inductive BusAnswer where
  | ack
  | nack
  | silent
  | out (b : Byte)
deriving DecidableEq, Repr

/-- The host port operations (R170 to R175). -/
inductive PortCall where
  /-- `initialize(address)` (R170). -/
  | initializeSlave (address : Nat)
  /-- `disable()` (R171, R172). -/
  | disable
  /-- `hasPendingCommand()` (R173). -/
  | hasPendingCommand
  /-- `popCommand()` (R174). -/
  | popCommand
  /-- `pushResponse(word)` (R175). -/
  | pushResponse (w : Word)
deriving DecidableEq, Repr

/-- ENV_UI's accesses to the device port (R52, R297). -/
inductive UiAccess where
  | setWaveType (t : Wave)
  | getWaveType
  | setFrequency (f : BitVec 64)
  | getFrequency
deriving DecidableEq, Repr

/-- ENV_LCD's accesses to the display port (R55, R297). -/
inductive LcdAccess where
  | isChanged (d : DisplayString)
  | reset (d : DisplayString)
  | get (d : DisplayString)
deriving DecidableEq, Repr

/-- What the cooperative loop does next: a port call, a poll of the dispatcher (its pop stage), or an access by one of
the collaborators that run on the same loop (R16, R297). -/
inductive CoreAction where
  | port (c : PortCall)
  | poll
  | ui (a : UiAccess)
  | lcd (a : LcdAccess)
deriving DecidableEq, Repr

/-- The two agents of the block (R297). -/
inductive Agent where
  | bus
  | core
deriving DecidableEq, Repr

/-- One thing the block answered to the outside: a bus answer (R130), or what a port operation returned (R52, R55,
R173, R174). -/
inductive Answer where
  | bus (a : BusAnswer)
  | pending (b : Bool)
  | popped (w : Word)
  | waveType (t : Wave)
  | frequency (f : BitVec 64)
  | changed (b : Bool)
  | text (bytes : Vector Byte 17)
deriving DecidableEq, Repr

/-- Why the machine stops with a fault. -/
inductive Fault where
  /-- `Fault(PopEmpty)` (R174, R292): `popCommand` was called with `QUEUE` empty, which the source calls undefined.
  Raised by the port operation `popCommand`, and answered ever after by a machine whose `FAULT` mark is set (R59).
  Safe: the model stops where the hardware's result is undefined. -/
  | popEmpty
deriving DecidableEq, Repr

/-- Why the model has no meaning. -/
inductive Refusal where
  /-- `exec` has no meaning for the named command yet. Raised by no arm: every command has its meaning. Safe. -/
  | notModelled (mnemonic : String)
  /-- The configuration is outside its range (R261, R292: "The model has no meaning for it"). Raised by `step`. Safe. -/
  | badConfiguration
deriving DecidableEq, Repr

/-- The whole state. Registers carry the spec's names in lower case; the last group is the model's own. -/
structure State where
  /-- The parameters of R7; no step writes them. The model's own field. -/
  cfg : Config
  /-- `ARMED` (R32). -/
  armed : Bool
  /-- `SLAVE_ADDR` (R33). -/
  slaveAddr : BitVec 7
  /-- `BUS_STATE` (R34). -/
  busState : BusState
  /-- `RXBUF[0 .. RX_CAP-1]` (R35). -/
  rxBuf : List Byte
  /-- `RXLEN` (R35). -/
  rxLen : Nat
  /-- `TXBUF[0 .. TX_CAP-1]` (R36). -/
  txBuf : Vector Byte 4
  /-- `TXLEN` (R36). -/
  txLen : Nat
  /-- `TXIDX` (R36). -/
  txIdx : Nat
  /-- `QUEUE`, oldest word first (R38; the sequence view of R82). -/
  queue : List Word
  /-- `RESP` (R40). -/
  resp : Word
  /-- `RESP_VALID` (R41). -/
  respValid : Bool
  /-- `DISABLE_PENDING` (R42). -/
  disablePending : Bool
  /-- `DISP_WORD` (R43). -/
  dispWord : Option Word
  /-- `WAVE` (R50). -/
  wave : Wave
  /-- `FREQ` in mHz (R51). -/
  freq : BitVec 64
  /-- `STR[0]`, the splash text (R53). -/
  strSplash : Vector Byte 17
  /-- `STR[1]`, the companion-address text (R53). -/
  strCompanion : Vector Byte 17
  /-- `CHG[0]` (R54). -/
  chgSplash : Bool
  /-- `CHG[1]` (R54). -/
  chgCompanion : Bool
  /-- `EVENTS`, oldest record first (R58). -/
  events : List ErrorEvent
  /-- `FAULT` (R59). -/
  fault : Bool
  /-- How many overrun bytes have been drawn (R140). The model's own field (log entry 4). -/
  draws : Nat
  /-- What the block has answered, oldest first. The model's own field (log entry 6). -/
  answers : List Answer
  /-- The interleaving still to follow: which agent takes each coming step (R85); when it is used up, CORE steps. The
  model's own field (log entry 5). -/
  turns : List Agent
  /-- The bus events the master will still produce, in bus order (R130, R295). The model's own field (log entry 5). -/
  busInput : List BusEvent
  /-- What the cooperative loop will still do, in its order; when it is used up, it polls. The model's own field (log
  entry 5). -/
  coreInput : List CoreAction
deriving DecidableEq, Repr

/-- The power-on values the spec leaves to a "launch draw" (R56, D26, D39). -/
structure Launch where
  /-- `SLAVE_ADDR` at power-on. -/
  slaveAddr : BitVec 7
  /-- What `RXBUF` holds at power-on, cut or filled with 0 to `RX_CAP` bytes. -/
  rxBuf : List Byte
  /-- `TXBUF` at power-on. -/
  txBuf : Vector Byte 4
  /-- `WAVE` at power-on. -/
  wave : Wave
  /-- `FREQ` at power-on. -/
  freq : BitVec 64
deriving DecidableEq, Repr

/-- The power-on state of R56 and R320, for any configuration and any launch draw. -/
def State.powerOn (c : Config) (l : Launch) : State where
  cfg := c
  armed := false
  slaveAddr := l.slaveAddr
  busState := .idle
  rxBuf := (l.rxBuf ++ List.replicate c.rxCap 0).take c.rxCap
  rxLen := 0
  txBuf := l.txBuf
  txLen := 0
  txIdx := 0
  queue := []
  resp := 0
  respValid := false
  disablePending := false
  dispWord := none
  wave := l.wave
  freq := l.freq
  strSplash := Vector.replicate 17 0
  strCompanion := Vector.replicate 17 0
  chgSplash := false
  chgCompanion := false
  events := []
  fault := false
  draws := 0
  answers := []
  turns := []
  busInput := []
  coreInput := []

/-- The launch values `State.reset` takes. DESIGN CHOICE (log entry 2), unsafe: the spec leaves each of them open; the
model takes zero, and for `WAVE` the value whose response code is 00 (R208). -/
def Launch.zero : Launch where
  slaveAddr := 0
  rxBuf := []
  txBuf := Vector.replicate 4 0
  wave := .none
  freq := 0

/-- The machine right after power-on (R56, R320): nothing is armed, queued or pending. The configuration and the launch
draws are the model's (log entries 1 and 2). -/
def State.reset : State := State.powerOn Config.reference Launch.zero

end Sys2Proof.Machine
end

