-- ==== Sys2Proof/Machine/Ops.lean ====
section
/-! DEFINITION. The shared operations every step is made of: the primitives of 00_scope.md R13, the FIFO of
20_memory.md, the byte orders of R72 and R73, and the two ways the block meets an error. THE BLOCK HAS NO TRAP
(60_exceptions.md R290): no vector, no saved state, no handler and no return. Its one shared error operation is `log`
(R291); the model's one fault is raised by `raiseFault` (R292). -/

namespace Sys2Proof.Machine

/-! ### Errors -/

/-- `log E(code)`: append a record to `EVENTS` and go on (R13, R58, R291). -/
def State.log (e : ErrorEvent) (s : State) : State := { s with events := s.events ++ [e] }

/-- `raise Fault(PopEmpty)`: set the mark `FAULT` (R59, R292). -/
def State.raiseFault (s : State) : State := { s with fault := true }

/-- The code of an error condition (R291). -/
def errorCode : ErrorEvent → Nat
  | .receiveOverflow => 1
  | .malformedTransaction => 2
  | .queueSaturated => 3
  | .unknownTag => 4
  | .invalidStringSlot => 5
  | .busError => 6

/-- How a step that did its work ends: "A faulted state is never a final state of a run" (R292), so a state whose mark
is set answers the fault. -/
def settle (s : State) : Host.Outcome State Fault Refusal :=
  if s.fault then .fault .popEmpty else .next s

/-! ### Answers -/

/-- Record what a step answers (R130; log entry 6). -/
def State.answer (a : Answer) (s : State) : State := { s with answers := s.answers ++ [a] }

/-- The slave's answer to a bus event (R130). -/
def State.answerBus (a : BusAnswer) (s : State) : State := s.answer (.bus a)

/-! ### The inbound FIFO -/

/-- `Enqueue(w)`: append when there is room, else drop the word and log it (R80). -/
def enqueue (w : Word) (s : State) : State :=
  if s.queue.length < s.cfg.qCap then { s with queue := s.queue ++ [w] } else s.log .queueSaturated

/-- One `Enqueue` for each word, oldest first (R137). -/
def enqueueAll (ws : List Word) (s : State) : State := ws.foldl (fun t w => enqueue w t) s

/-- `Dequeue()`: the head of `QUEUE` and the state without it; none when `QUEUE` is empty (R81). -/
def dequeue (s : State) : Option (Word × State) :=
  match s.queue with
  | [] => none
  | w :: rest => some (w, { s with queue := rest })

/-! ### Byte orders -/

/-- The complete words of a run of bytes, four bytes each, first-arrived byte most significant (R72). -/
def wordsOf : List Byte → List Word
  | b0 :: b1 :: b2 :: b3 :: rest => wordOfBytes b0 b1 b2 b3 :: wordsOf rest
  | _ => []

/-- Byte `i` of a response: `RESP[8i+7 : 8i]` (R73). -/
def responseByte (w : Word) (i : Nat) : Byte := w.extractLsb' (8 * i) 8

/-- The transmit scratch a response fills, least significant byte first (R73, R138). -/
def responseBytes (w : Word) : Vector Byte 4 :=
  #v[responseByte w 0, responseByte w 1, responseByte w 2, responseByte w 3]

/-! ### The device port -/

/-- `setWaveType(t)`: `WAVE <- t`, stored exactly (R52). -/
def setWaveType (t : Wave) (s : State) : State := { s with wave := t }

/-- `getWaveType()` (R52). -/
def getWaveType (s : State) : Wave := s.wave

/-- `setFrequency(f)`: `FREQ <- f`, stored exactly, neither rounded nor clamped (R52). -/
def setFrequency (f : BitVec 64) (s : State) : State := { s with freq := f }

/-- `getFrequency()` (R52). -/
def getFrequency (s : State) : BitVec 64 := s.freq

/-! ### The display strings -/

/-- `STR[d]` (R53). -/
def State.str (d : DisplayString) (s : State) : Vector Byte 17 :=
  match d with
  | .splash => s.strSplash
  | .companion => s.strCompanion

/-- Write all of `STR[d]`. -/
def State.setStr (d : DisplayString) (v : Vector Byte 17) (s : State) : State :=
  match d with
  | .splash => { s with strSplash := v }
  | .companion => { s with strCompanion := v }

/-- `BufWrite(d, i, b)`: `STR[d][i] <- b`; "A call with `i > 16` never occurs" (R76), and such a call writes nothing. -/
def bufWrite (d : DisplayString) (i : Nat) (b : Byte) (s : State) : State :=
  s.setStr d ((s.str d).setIfInBounds i b)

/-- The text a string shows: its bytes up to, not including, the first terminator (R14). -/
def shownText (v : Vector Byte 17) : List Byte := v.toList.takeWhile (fun b => b != 0)

end Sys2Proof.Machine
end

