-- ==== Sys2Proof/Machine/Flags.lean ====
section
/-! DEFINITION. The block's one-bit state. It has no condition codes and no arithmetic writes a flag (10_state.md R45);
its flags are `ARMED`, `RESP_VALID`, `DISABLE_PENDING`, `CHG[0]`, `CHG[1]` and the model's `FAULT`, and this file holds
every computation on them that more than one rule uses. -/

namespace Sys2Proof.Machine

/-- `CHG[d]` (R54). -/
def State.chg (d : DisplayString) (s : State) : Bool :=
  match d with
  | .splash => s.chgSplash
  | .companion => s.chgCompanion

/-- Write `CHG[d]`: an accepted chunk sets it (R233), ENV_LCD clears it (R55). -/
def State.setChg (d : DisplayString) (b : Bool) (s : State) : State :=
  match d with
  | .splash => { s with chgSplash := b }
  | .companion => { s with chgCompanion := b }

/-- Write the response slot and `RESP_VALID` in one step (R84). -/
def State.setResp (w : Word) (valid : Bool) (s : State) : State := { s with resp := w, respValid := valid }

/-- Write `ARMED` and `DISABLE_PENDING`, the two flags of the power states (R299). -/
def State.setPower (armed disablePending : Bool) (s : State) : State :=
  { s with armed := armed, disablePending := disablePending }

/-- `|QUEUE| > 0`, the status `hasPendingCommand` reads (R48, R173). -/
def hasPendingCommand (s : State) : Bool := !s.queue.isEmpty

end Sys2Proof.Machine
end

