-- ==== Sys2Proof/Machine/Operands.lean ====
section
/-! DEFINITION. How each command's operand is assembled from its fields (30_encoding.md R111 to R113), and the two wave
codes (42_command_dispatcher.md R207, R208). Every operand is unsigned (R9). -/

namespace Sys2Proof.Machine

/-- `SETWAVE`'s `idx`: bits 5:4 ORed with bits 2:1 (R102, R111). -/
def waveIndex (hi lo : BitVec 2) : BitVec 2 := hi ||| lo

/-- `decodeWave(idx)` (R207). -/
def decodeWave (idx : BitVec 2) : Wave :=
  match idx with
  | 0#2 => .sine
  | 1#2 => .triangle
  | 2#2 => .square
  | 3#2 => .none

/-- The index `SETWAVE` needs for a wave type: R207 read backwards (R117, R335). -/
def indexOfWave : Wave → BitVec 2
  | .sine => 0
  | .triangle => 1
  | .square => 2
  | .none => 3

/-- `encodeWave(t)`, the response's code (R208). -/
def encodeWave : Wave → BitVec 2
  | .square => 1
  | .sine => 2
  | .triangle => 3
  | .none => 0

/-- `byteOffset = slot * 3`, 0 to 21 (R112). -/
def chunkOffset (slot : BitVec 3) : Nat := slot.toNat * 3

/-- A character as the byte stored: zero-extended from 7 to 8 bits (R112). -/
def charByte (c : Char7) : Byte := c.setWidth 8

end Sys2Proof.Machine
end

