-- ==== Sys2Proof/Machine/Bus.lean ====
section
/-! DEFINITION. The bus events, the steps of the BUS agent (40_bus_transport.md R130 to R145). Each event is one atomic
step (R85). -/

namespace Sys2Proof.Machine

/-- `Term` in `AddressedAsReceiver`: enqueue the held words, or discard the whole scratch (R137). -/
def termReceive (s : State) : State :=
  let t :=
    if s.rxLen % 4 = 0 then enqueueAll (wordsOf (s.rxBuf.take s.rxLen)) s else s.log .malformedTransaction
  { t with rxLen := 0, busState := .idle }

/-- `Term`: the end of a write (R137), of a read (R143), or of a transaction of another slave (R144). -/
def term (s : State) : State :=
  match s.busState with
  | .idle => s
  | .addressedAsReceiver => termReceive s
  | .addressedAsTransmitter => { s with busState := .idle }

/-- Whether the slave answers to an address: armed, and its own (R131, R132). -/
def addressed (a : BitVec 7) (s : State) : Bool := s.armed && decide (a = s.slaveAddr)

/-- The capture of the response into the transmit scratch (R138). -/
def capture (s : State) : State :=
  let s0 := { s with txLen := 0, txIdx := 0 }
  let s1 := if s0.respValid then { s0 with txBuf := responseBytes s0.resp, txLen := 4 } else s0
  if s1.txLen = 0 then { s1 with txBuf := s1.txBuf.set 0 0, txLen := 1 } else s1

/-- `AddrW(a)` from `Idle`: start a receive (R131) or refuse the address (R132). -/
def startReceive (a : BitVec 7) (s : State) : State :=
  if addressed a s then ({ s with rxLen := 0, busState := .addressedAsReceiver }).answerBus .ack
  else s.answerBus .nack

/-- `AddrR(a)` from `Idle`: capture and start a transmit (R138), or refuse the address (R132). -/
def startTransmit (a : BitVec 7) (s : State) : State :=
  if addressed a s then ({ capture s with busState := .addressedAsTransmitter }).answerBus .ack
  else s.answerBus .nack

/-- `AddrW(a)`. Addressed already, it first has the effect of `Term` (R133); in `Idle` that effect is nothing (R144). -/
def busAddrW (a : BitVec 7) (s : State) : State := startReceive a (term s)

/-- `AddrR(a)`. Addressed already, it first has the effect of `Term` (R133); in `Idle` that effect is nothing (R144). -/
def busAddrR (a : BitVec 7) (s : State) : State := startTransmit a (term s)

/-- `RxByte(b)`: held while there is room (R134), refused and logged when the scratch is full (R135), ignored when not
receiving (R136). -/
def busRxByte (b : Byte) (s : State) : State :=
  match s.busState with
  | .addressedAsReceiver =>
    if s.rxLen < s.cfg.rxCap then
      ({ s with rxBuf := s.rxBuf.set s.rxLen b, rxLen := s.rxLen + 1 }).answerBus .ack
    else (s.log .receiveOverflow).answerBus .nack
  | .idle => s.answerBus .silent
  | .addressedAsTransmitter => s.answerBus .silent

/-- The byte of the transmit scratch at `TXIDX` (R139). -/
def txCurrent (s : State) : Byte := s.txBuf.toList.getD s.txIdx 0

/-- `TxByte(m)`: the next captured byte (R139), a free byte past them (R140; `Config.overrunByte` at the counter
`draws`), nothing when not transmitting (R141). The master's acknowledge `m` has no effect (R142). -/
def busTxByte (_m : MasterAck) (s : State) : State :=
  match s.busState with
  | .addressedAsTransmitter =>
    if s.txIdx < s.txLen then ({ s with txIdx := s.txIdx + 1 }).answerBus (.out (txCurrent s))
    else ({ s with draws := s.draws + 1 }).answerBus (.out (Config.overrunByte s.draws))
  | .idle => s.answerBus .silent
  | .addressedAsReceiver => s.answerBus .silent

/-- `BusErr`, in any state: log it, reset the scratch, return to `Idle` (R145). -/
def busBusErr (s : State) : State :=
  { s.log .busError with rxLen := 0, txLen := 0, txIdx := 0, busState := .idle }

/-- One bus event (R130). -/
def busEvent (e : BusEvent) (s : State) : State :=
  match e with
  | .addrW a => busAddrW a s
  | .addrR a => busAddrR a s
  | .rxByte b => busRxByte b s
  | .txByte m => busTxByte m s
  | .term => term s
  | .busErr => busBusErr s

/-- A run of bus events with no CORE step between them. -/
def busRun (es : List BusEvent) (s : State) : State := es.foldl (fun t e => busEvent e t) s

end Sys2Proof.Machine
end

