-- ==== Sys2Proof/Machine/Collaborators.lean ====
section
/-! DEFINITION. The accesses of the collaborators that share the cooperative loop: ENV_UI on the device port
(10_state.md R52) and ENV_LCD on the display port (R55). Each is one atomic step (20_memory.md R85). -/

namespace Sys2Proof.Machine

/-- One access of ENV_UI (R52). -/
def uiAccess (a : UiAccess) (s : State) : State :=
  match a with
  | .setWaveType t => setWaveType t s
  | .getWaveType => s.answer (.waveType (getWaveType s))
  | .setFrequency f => setFrequency f s
  | .getFrequency => s.answer (.frequency (getFrequency s))

/-- One access of ENV_LCD (R55). -/
def lcdAccess (a : LcdAccess) (s : State) : State :=
  match a with
  | .isChanged d => s.answer (.changed (s.chg d))
  | .reset d => s.setChg d false
  | .get d => s.answer (.text (s.str d))

end Sys2Proof.Machine
end

