-- ==== Sys2Proof/Machine/Frequency.lean ====
section
/-! DEFINITION. The fixed-point frequency codec (44_frequency_codec.md). Frequencies are exact naturals in mHz here and
are narrowed to 64 bits where a register takes them; under R261 nothing is lost by it (R268). -/

namespace Sys2Proof

/-- `M = MCLK * 1000`, the reference clock in mHz (R260). -/
def Config.refMilli (c : Config) : Nat := c.mclk * 1000

/-- `D = M >> 28`, mHz for each tuning step, truncated (R260). -/
def Config.divisor (c : Config) : Nat := c.refMilli >>> 28

/-- `H = D >> 1`, the rounding term (R260). -/
def Config.half (c : Config) : Nat := c.divisor >>> 1

/-- `FMAX = MCLK * 500`, half the clock in mHz (R260). -/
def Config.fmax (c : Config) : Nat := c.mclk * 500

/-- `freqToReg(f) = (min(f, FMAX) + H) div D` (R262). -/
def freqToReg (c : Config) (f : Nat) : Nat := (min f c.fmax + c.half) / c.divisor

/-- `regToFreq(reg) = reg * D`, exact (R263). -/
def regToFreq (c : Config) (reg : Nat) : Nat := reg * c.divisor

/-- `nearestFreq(f) = regToFreq(freqToReg(f))` (R264). -/
def nearestFreq (c : Config) (f : Nat) : Nat := regToFreq c (freqToReg c f)

/-- `RSAT = freqToReg(FMAX)`, the largest tuning word (R260). -/
def Config.rsat (c : Config) : Nat := freqToReg c c.fmax

end Sys2Proof
end

