-- ==== Sys2Proof/Machine/Device.lean ====
section
/-! DEFINITION. The commands that set the device: `SETWAVE` and `SETFREQ` (42_command_dispatcher.md R202, R203). -/

namespace Sys2Proof.Machine

/-- `SETWAVE`: `WAVE <- decodeWave(idx)`; no response, no error (R202). -/
def execSetwave (hi lo : BitVec 2) (s : State) : Host.Outcome State Fault Refusal :=
  .next (setWaveType (decodeWave (waveIndex hi lo)) s)

/-- `SETFREQ`: `FREQ <- regToFreq(zext_64(reg))`, all 29 bits used and nothing clamped (R203). -/
def execSetfreq (reg : BitVec 29) (s : State) : Host.Outcome State Fault Refusal :=
  .next (setFrequency (BitVec.ofNat 64 (regToFreq s.cfg reg.toNat)) s)

end Sys2Proof.Machine
end

