-- ==== Sys2Proof/Machine/Display.lean ====
section
/-! DEFINITION. The command `STRCHUNK` and the chunk unpacker (42_command_dispatcher.md R205, 43_string_chunk_codec.md
R231 to R233). -/

namespace Sys2Proof.Machine

/-- A chunk is accepted when its terminator index lies inside the 17-byte buffer: `off + 3 ≤ 16` (R232). -/
def chunkFits (slot : BitVec 3) : Bool := decide (chunkOffset slot + 3 ≤ 16)

/-- The four bytes an accepted chunk writes, least significant character first, the terminator last (R231). -/
def writeChunk (d : DisplayString) (off : Nat) (cA cB cC : Char7) (s : State) : State :=
  bufWrite d (off + 3) 0
    (bufWrite d off (charByte cA) (bufWrite d (off + 1) (charByte cB) (bufWrite d (off + 2) (charByte cC) s)))

/-- `unpackChunk`: reject a chunk that does not fit, whole and with a record (R232); else write it, terminate it and set
the changed flag (R231, R233). -/
def unpackChunk (d : DisplayString) (slot : BitVec 3) (cA cB cC : Char7) (s : State) : State :=
  if chunkFits slot then (writeChunk d (chunkOffset slot) cA cB cC s).setChg d true
  else s.log .invalidStringSlot

/-- `STRCHUNK` (R205). -/
def execStrchunk (target : DisplayString) (slot : BitVec 3) (cA cB cC : Char7) (s : State) :
    Host.Outcome State Fault Refusal :=
  .next (unpackChunk target slot cA cB cC s)

end Sys2Proof.Machine
end

