-- ==== Sys2Proof/Machine/Ignored.lean ====
section
/-! DEFINITION. The ignored tags 2, 3, 4 and 6 (42_command_dispatcher.md R206). -/

namespace Sys2Proof.Machine

/-- `IGNORED(w)`: log `UnknownTag`; "No other effect" (R206). -/
def ignoreWord (s : State) : State := s.log .unknownTag

/-- `IGN2` (R206). -/
def execIgn2 (s : State) : Host.Outcome State Fault Refusal := .next (ignoreWord s)

/-- `IGN3` (R206). -/
def execIgn3 (s : State) : Host.Outcome State Fault Refusal := .next (ignoreWord s)

/-- `IGN4` (R206). -/
def execIgn4 (s : State) : Host.Outcome State Fault Refusal := .next (ignoreWord s)

/-- `IGN6` (R206). -/
def execIgn6 (s : State) : Host.Outcome State Fault Refusal := .next (ignoreWord s)

end Sys2Proof.Machine
end

