-- ==== Sys2Proof/Machine/Ports.lean ====
section
/-! DEFINITION. The host port operations, steps of the CORE agent (41_transport_host_ports.md R170 to R175). Each is one
atomic step but `disable`, which is two (R85). -/

namespace Sys2Proof.Machine

/-- `initialize(address)`, the block's reset operation (R170, R321): only the low 7 bits of the address are kept. -/
def portInit (address : Nat) (s : State) : State :=
  { s with
    slaveAddr := BitVec.ofNat 7 address
    queue := []
    resp := 0
    respValid := false
    rxLen := 0
    txLen := 0
    txIdx := 0
    busState := .idle
    armed := true }

/-- `disable()`, first step (R171). -/
def disableFirst (s : State) : State := s.setPower false true

/-- `disable()`, completion step: CORE holds until `BUS_STATE = Idle`, then `disable` returns (R172). -/
def disableComplete (s : State) : State :=
  match s.busState with
  | .idle => s.setPower s.armed false
  | .addressedAsReceiver => s
  | .addressedAsTransmitter => s

/-- `popCommand()`: the oldest word, or the fault when there is none (R174). -/
def popCommand (s : State) : Option Word × State :=
  match dequeue s with
  | some (w, t) => (some w, t)
  | none => (none, s.raiseFault)

/-- `pushResponse(word)`: overwrite the slot unconditionally (R175). -/
def pushResponse (w : Word) (s : State) : State := s.setResp w true

/-- `popCommand()` as a port call: the popped word is its answer (R174). -/
def portPop (s : State) : State :=
  match popCommand s with
  | (some w, t) => t.answer (.popped w)
  | (none, t) => t

/-- One host port call (R170 to R175). -/
def portCall (c : PortCall) (s : State) : State :=
  match c with
  | .initializeSlave address => portInit address s
  | .disable => disableFirst s
  | .hasPendingCommand => s.answer (.pending (hasPendingCommand s))
  | .popCommand => portPop s
  | .pushResponse w => pushResponse w s

end Sys2Proof.Machine
end

