-- ==== Sys2Proof/Machine/Response.lean ====
section
/-! DEFINITION. The command `QUERY` and the response word it builds (42_command_dispatcher.md R204, 30_encoding.md
R107). -/

namespace Sys2Proof.Machine

/-- `r <- (encodeWave(t) << 29) | freqToReg(f)`, 32 bits (R204). -/
def responseWord (c : Config) (t : Wave) (f : BitVec 64) : Word :=
  ((encodeWave t).setWidth 32 <<< 29) ||| BitVec.ofNat 32 (freqToReg c f.toNat)

/-- `QUERY`: build the response and push it (R204). -/
def execQuery (s : State) : Host.Outcome State Fault Refusal :=
  .next (pushResponse (responseWord s.cfg (getWaveType s) (getFrequency s)) s)

end Sys2Proof.Machine
end

