-- ==== Sys2Proof/Machine/Dispatch.lean ====
section
/-! DEFINITION. `execute(w)`'s one exhaustive match, on the decoded command (42_command_dispatcher.md R201). -/

namespace Sys2Proof.Machine

def exec (i : Instr) (s : State) : Host.Outcome State Fault Refusal :=
  match i with
  | .setwave hi lo => Sys2Proof.Machine.execSetwave hi lo s
  | .setfreq reg => Sys2Proof.Machine.execSetfreq reg s
  | .ign2 => Sys2Proof.Machine.execIgn2 s
  | .ign3 => Sys2Proof.Machine.execIgn3 s
  | .ign4 => Sys2Proof.Machine.execIgn4 s
  | .query => Sys2Proof.Machine.execQuery s
  | .ign6 => Sys2Proof.Machine.execIgn6 s
  | .strchunk target slot cA cB cC => Sys2Proof.Machine.execStrchunk target slot cA cB cC s

end Sys2Proof.Machine
end

