-- ==== Sys2Proof/Machine/Turns.lean ====
section
/-! DEFINITION. One turn of each agent: the BUS agent takes the next bus event (60_exceptions.md R297); the CORE agent
takes the one step that is enabled for it (41_transport_host_ports.md R176, 42_command_dispatcher.md R200). -/

namespace Sys2Proof.Machine

/-- The dispatcher's pop stage: `DISP_WORD <- popCommand()` when a word is pending, else nothing (R200). -/
def popStage (s : State) : State :=
  if hasPendingCommand s then
    let (r, t) := popCommand s
    { t with dispWord := r }
  else s

/-- The dispatcher's execute stage: `execute(w); DISP_WORD <- none` (R200, R201). -/
def executeStage (w : Word) (s : State) : Host.Outcome State Fault Refusal :=
  match exec (decode w) s with
  | .next t => settle { t with dispWord := none }
  | .fault r => .fault r
  | .refused r => .refused r

/-- One action of the cooperative loop (R297). -/
def coreAction (a : CoreAction) (s : State) : State :=
  match a with
  | .port c => portCall c s
  | .poll => popStage s
  | .ui x => uiAccess x s
  | .lcd x => lcdAccess x s

/-- The cooperative loop when it is free: its next action, or a poll of the dispatcher when none is planned (R210; log
entry 5). -/
def coreFree (s : State) : State :=
  match s.coreInput with
  | [] => popStage s
  | a :: rest => coreAction a { s with coreInput := rest }

/-- A CORE turn: the execute stage while `DISP_WORD ≠ none` (R200); the completion step of `disable`, or the hold before
it, while `DISABLE_PENDING` (R172, R333); else the loop's next action (R176). -/
def coreTurn (s : State) : Host.Outcome State Fault Refusal :=
  match s.dispWord with
  | some w => executeStage w s
  | none => if s.disablePending then settle (disableComplete s) else settle (coreFree s)

/-- A BUS turn: the next bus event, if the master has one (R294, R295). -/
def busTurn (s : State) : State :=
  match s.busInput with
  | [] => s
  | e :: rest => busEvent e { s with busInput := rest }

/-- One step of the interleaving (R85): the agent whose turn it is takes one atomic step; when no turn is planned, CORE
does (log entry 5). -/
def takeTurn (s : State) : Host.Outcome State Fault Refusal :=
  match s.turns with
  | [] => coreTurn s
  | .core :: rest => coreTurn { s with turns := rest }
  | .bus :: rest => settle (busTurn { s with turns := rest })

/-- A configuration out of range is refused (R261, R292); a machine whose `FAULT` mark is set stays faulted (R59). -/
def guardedTurn (s : State) : Host.Outcome State Fault Refusal :=
  if s.cfg.valid then
    if s.fault then .fault .popEmpty else takeTurn s
  else .refused .badConfiguration

/-- The state with a word in `DISP_WORD`, popped and not yet executed, and the next turn CORE's: the very next step is
the word's execute stage (R43, R200; log entry 7). -/
def placeWord (w : Word) (s : State) : State := { s with dispWord := some w, turns := .core :: s.turns }

end Sys2Proof.Machine
end

