-- ==== Sys2Proof/Machine/Step.lean ====
section
/-! DEFINITION. The step function and the placing of a word where the next step executes it. -/

namespace Sys2Proof.Machine

/-- One atomic step of one agent (R16, R85). -/
def step (s : State) : Host.Outcome State Fault Refusal := guardedTurn s

/-- `s` with the instruction whose bits are `w` where the next step executes it (log entry 7). -/
def State.withFetchWord (s : State) (nbits w : Nat) : State := placeWord (tableWord nbits w) s

end Sys2Proof.Machine
end

