-- ==== Sys2Proof/Machine/Notation.lean ====
section
/-! DEFINITION. The spec's notation for command words, pseudo-instructions and bus frames (30_encoding.md R108, R109,
R117, R118), and a run of commands. Nothing the machine does depends on this file; statements use it. -/

namespace Sys2Proof.Machine

/-- `SETWAVE <type>`: the index in bits 5:4, so bits 2:1 are 0 (R117). -/
def setWaveCommand (t : Wave) : Instr := .setwave (indexOfWave t) 0

/-- `SETFREQ.mhz f` is `SETFREQ freqToReg(f)` (R118). -/
def setFreqMhz (c : Config) (f : Nat) : Instr := .setfreq (BitVec.ofNat 29 (freqToReg c f))

/-- `packChunk(s, slot, a, b, c)`, the sender's encoder (R235). -/
def packChunk (d : DisplayString) (slot : BitVec 3) (a b c : Char7) : Word := encode (.strchunk d slot a b c)

/-- The chunks of a text, three characters each; the last is filled with 0, and the empty text gives one (R118). -/
def chunksOf : List Char7 → List (Char7 × Char7 × Char7)
  | a :: b :: c :: d :: rest => (a, b, c) :: chunksOf (d :: rest)
  | [a, b, c] => [(a, b, c)]
  | [a, b] => [(a, b, 0)]
  | [a] => [(a, 0, 0)]
  | [] => [(0, 0, 0)]

/-- `SETSTR sel, "text"`: the chunks in increasing slot order; a text over 15 characters is refused (R118). -/
def setStr (d : DisplayString) (text : List Char7) : Option (List Instr) :=
  if textFits text then
    some ((chunksOf text).zipIdx.map (fun x => .strchunk d (BitVec.ofNat 3 x.2) x.1.1 x.1.2.1 x.1.2.2))
  else none

/-- Execute commands one after another, stopping at the first that gives no next state. -/
def execList : List Instr → State → Host.Outcome State Fault Refusal
  | [], s => .next s
  | i :: rest, s =>
    match exec i s with
    | .next t => execList rest t
    | .fault r => .fault r
    | .refused r => .refused r

/-- A write transaction's events: `W a: b0 b1 ...; P` (R108, R117). -/
def writeFrame (a : BitVec 7) (bytes : List Byte) : List BusEvent :=
  .addrW a :: bytes.map .rxByte ++ [.term]

/-- The bytes that carry command words, each most significant byte first (R72, R108). -/
def bytesOfWords (ws : List Word) : List Byte := ws.flatMap bytesOfWord

/-- A read transaction's events: `R a: n; P` (R109, R117). -/
def readFrame (a : BitVec 7) (n : Nat) : List BusEvent :=
  .addrR a :: List.replicate n (.txByte .mack) ++ [.term]

end Sys2Proof.Machine
end

