-- ==== Sys2Proof/Machine/Ring.lean ====
section
/-! DEFINITION. The ring-buffer realisation of the inbound FIFO that 20_memory.md R82 gives beside the sequence view.
The machine keeps the sequence alone ("A model may keep the sequence view alone"); this file writes the realisation out
so that the two can be compared. -/

namespace Sys2Proof.Machine

/-- `QBUF[0 .. Q_CAP-1]`, `QHEAD`, `QTAIL` and `QCOUNT` (R82). -/
structure Ring where
  buf : List Word
  head : Nat
  tail : Nat
  count : Nat
deriving DecidableEq, Repr

/-- Right after the port operation that empties the queue: all three indices are 0 (R82); the stored words stay. -/
def ringClear (r : Ring) : Ring := { r with head := 0, tail := 0, count := 0 }

/-- `Enqueue` on a ring of capacity `n`: with room, store at the tail; without, leave the ring as it is (R80, R82). -/
def ringEnqueue (n : Nat) (w : Word) (r : Ring) : Ring :=
  if r.count < n then
    { r with buf := r.buf.set r.tail w, tail := (r.tail + 1) % n, count := r.count + 1 }
  else r

/-- `Dequeue` on a ring of capacity `n`: the word at the head, and the ring without it (R81, R82). -/
def ringDequeue (n : Nat) (r : Ring) : Option (Word × Ring) :=
  if r.count = 0 then none
  else some (r.buf.getD r.head 0, { r with head := (r.head + 1) % n, count := r.count - 1 })

/-- The sequence a ring stands for: `QBUF[(QHEAD+j) mod Q_CAP]` for `j` below `QCOUNT` (R82). -/
def ringView (n : Nat) (r : Ring) : List Word :=
  (List.range r.count).map (fun j => r.buf.getD ((r.head + j) % n) 0)

/-- The ranges of R82, and where the tail lies: `QCOUNT` words after the head. -/
def ringOk (n : Nat) (r : Ring) : Bool :=
  decide (r.buf.length = n) && decide (r.head < n) && decide (r.count ≤ n) && decide (r.tail = (r.head + r.count) % n)

end Sys2Proof.Machine
end

