-- ==== Sys2Proof/Safety.lean ====
section
/-! DEFINITION. What holds of a machine that runs as the spec describes it: the ranges and relations 10_state.md,
43_string_chunk_codec.md and 60_exceptions.md give its registers. -/

namespace Sys2Proof.Machine

/-- `|QUEUE| ≤ Q_CAP` (R39). -/
def queueBounded (s : State) : Prop := s.queue.length ≤ s.cfg.qCap

/-- `RXBUF` has `RX_CAP` bytes and `RXLEN` lies in `0 .. RX_CAP` (R35). -/
def rxBounded (s : State) : Prop := s.rxBuf.length = s.cfg.rxCap ∧ s.rxLen ≤ s.cfg.rxCap

/-- `TXLEN` lies in `0 .. TX_CAP` and `TXIDX` stops at `TXLEN` (R36). -/
def txBounded (s : State) : Prop := s.txLen ≤ txCap ∧ s.txIdx ≤ s.txLen

/-- The power states of R299: `ARMED` and `DISABLE_PENDING` are never both true. -/
def powerStateLegal (s : State) : Prop := ¬ (s.armed = true ∧ s.disablePending = true)

/-- No word waits in `DISP_WORD` while `disable` is pending (R171, R200, R321). -/
def dispatchExclusive (s : State) : Prop := s.disablePending = true → s.dispWord = none

/-- While no response has been pushed since `initialize` or power-on, `RESP` is 0 (R56, R170, R175). -/
def responseClear (s : State) : Prop := s.respValid = false → s.resp = 0

/-- Every byte of a display string has bit 7 equal to 0 (R237), and indices 15 and 16 never hold a character (R238). -/
def stringLegal (v : Vector Byte 17) : Prop := (∀ b ∈ v.toList, b.getLsbD 7 = false) ∧ v[15] = 0 ∧ v[16] = 0

/-- The invariant of the machine. -/
structure State.Inv (s : State) : Prop where
  configValid : s.cfg.valid = true
  queue : queueBounded s
  rx : rxBounded s
  tx : txBounded s
  power : powerStateLegal s
  exclusive : dispatchExclusive s
  response : responseClear s
  splash : stringLegal s.strSplash
  companion : stringLegal s.strCompanion

/-- `v` is `old` with the three characters at `off`, `off + 1`, `off + 2` and a terminator at `off + 3`, every other byte
as it was (R231). -/
def chunkWritten (old v : Vector Byte 17) (off : Nat) (cA cB cC : Char7) : Prop :=
  ∀ i (h : i < 17), v[i] =
    if i = off then cA.setWidth 8
    else if i = off + 1 then cB.setWidth 8
    else if i = off + 2 then cC.setWidth 8
    else if i = off + 3 then 0
    else old[i]

/-- The agent whose step comes next (R85). -/
def nextAgent (s : State) : Agent :=
  match s.turns with
  | [] => .core
  | a :: _ => a

/-- The next step is a `popCommand` of the CORE side with `QUEUE` empty (R174, R330). -/
def popsEmpty (s : State) : Prop :=
  nextAgent s = .core ∧ s.dispWord = none ∧ s.disablePending = false ∧
    s.coreInput.head? = some (.port .popCommand) ∧ s.queue = []

end Sys2Proof.Machine
end

