-- ==== Sys2Proof/Certificates/Slice0/Obligations.lean ====
section
/-! DEFINITION. The statements for the provers, in the order of OBLIGATIONS.json: encoding, the commands, the string
codec, the frequency codec, the FIFO, the bus events, the ports, the step. Where a statement names `answers`, `draws`,
`turns`, `busInput`, `coreInput` or `cfg` it speaks of the model's own fields (log entries 1, 4, 5 and 6). -/

open Sys2Proof Sys2Proof.Machine

/-! ### Encoding -/

/-- Decoding an encoded command gives it back, with every operand at every value (R100 to R106, R117). -/
def Obligations.DecodeOfEncode : Prop := ∀ i : Instr, decode (encode i) = i

/-- Encoding a decoded word gives the word with the bits no formula reads cleared (R114, R117). -/
def Obligations.EncodeOfDecodeKeepsReadBits : Prop :=
  ∀ w : Word, encode (decode w) = w &&& readMask (decode w)

/-- Words that differ only in ignored bits are the same command: tag 0 bits 28:6, 3 and 0; tags 2 to 6 but 7 and 1, all
payload bits; tag 7 bits 28:26 and 24 (R106, R114). -/
def Obligations.IgnoredBitsChangeNothing : Prop :=
  ∀ (w v : Word) (s : State),
    (w >>> 29 = 0 → w &&& 0xE0000036 = v &&& 0xE0000036 → exec (decode w) s = exec (decode v) s) ∧
    ((w >>> 29 = 2 ∨ w >>> 29 = 3 ∨ w >>> 29 = 4 ∨ w >>> 29 = 5 ∨ w >>> 29 = 6) →
      w &&& 0xE0000000 = v &&& 0xE0000000 → exec (decode w) s = exec (decode v) s) ∧
    (w >>> 29 = 7 → w &&& 0xE2FFFFFF = v &&& 0xE2FFFFFF → exec (decode w) s = exec (decode v) s)

/-- `tag = word >> 29` selects the row, and every row's match and mask hold of its words (R100, R101, R119). -/
def Obligations.TagSelectsCommand : Prop :=
  ∀ w : Word,
    (w >>> 29 = 0 ↔ ∃ hi lo, decode w = .setwave hi lo) ∧
    (w >>> 29 = 1 ↔ ∃ reg, decode w = .setfreq reg) ∧
    (w >>> 29 = 2 ↔ decode w = .ign2) ∧
    (w >>> 29 = 3 ↔ decode w = .ign3) ∧
    (w >>> 29 = 4 ↔ decode w = .ign4) ∧
    (w >>> 29 = 5 ↔ decode w = .query) ∧
    (w >>> 29 = 6 ↔ decode w = .ign6) ∧
    (w >>> 29 = 7 ↔ ∃ d k a b c, decode w = .strchunk d k a b c) ∧
    w &&& 0xE0000000 = rowMatch (decode w)

/-- Words of the spec's own test vectors decode to the commands they stand for (95_test_vectors.md L2.3 to L2.7). -/
def Obligations.SampleWordsDecode : Prop :=
  decode 0x00000024 = .setwave 2 2 ∧ decode 0x00000012 = .setwave 1 1 ∧ decode 0x20A412B0 = .setfreq 10752688 ∧
  decode 0x3FFFFFFF = .setfreq 536870911 ∧ decode 0x5FFFFFFF = .ign2 ∧ decode 0x60000000 = .ign3 ∧
  decode 0x9FFFFFFF = .ign4 ∧ decode 0xBFFFFFFF = .query ∧ decode 0xDFFFFFFF = .ign6 ∧
  decode 0xE01222CC = .strchunk .splash 0 0x48 0x45 0x4C ∧ decode 0xE2987163 = .strchunk .companion 4 0x61 0x62 0x63

/-- The operand of a tag-0 word is `((word >> 4) | (word >> 1)) & 0x3`; bit by bit, `w5 | w2` and `w4 | w1` (R102). -/
def Obligations.SetWaveIndexFormula : Prop :=
  ∀ w : Word, w >>> 29 = 0 → ∃ hi lo, decode w = .setwave hi lo ∧
    (waveIndex hi lo).setWidth 32 = ((w >>> 4) ||| (w >>> 1)) &&& 0x3 ∧
    (waveIndex hi lo).getLsbD 1 = (w.getLsbD 5 || w.getLsbD 2) ∧
    (waveIndex hi lo).getLsbD 0 = (w.getLsbD 4 || w.getLsbD 1)

/-- The fields of a tag-1 word (R103, R113) and the extraction functions of a tag-7 word (R105, R112, R230). -/
def Obligations.FieldsOfFrequencyAndChunkWords : Prop :=
  ∀ w : Word,
    (w >>> 29 = 1 → ∃ reg, decode w = .setfreq reg ∧ reg.setWidth 32 = w &&& 0x1FFFFFFF) ∧
    (w >>> 29 = 7 → ∃ d k a b c, decode w = .strchunk d k a b c ∧
      (d = .companion ↔ (w >>> 25) &&& 1 = 1) ∧ k.setWidth 32 = (w >>> 21) &&& 7 ∧
      chunkOffset k = ((w >>> 21) &&& 7).toNat * 3 ∧ a.setWidth 32 = (w >>> 14) &&& 0x7F ∧
      b.setWidth 32 = (w >>> 7) &&& 0x7F ∧ c.setWidth 32 = w &&& 0x7F)

/-- `packChunk` is the OR of its shifted fields on 0xE0000000, and the decoder gives its arguments back (R235). -/
def Obligations.PackChunkFormula : Prop :=
  ∀ (d : DisplayString) (k : BitVec 3) (a b c : Char7),
    packChunk d k a b c = 0xE0000000#32 ||| (if d = .companion then 1#32 else 0#32) <<< 25 |||
      k.setWidth 32 <<< 21 ||| a.setWidth 32 <<< 14 ||| b.setWidth 32 <<< 7 ||| c.setWidth 32 ∧
    decode (packChunk d k a b c) = .strchunk d k a b c

/-! ### Commands -/

/-- `SETWAVE` completes in every state: it sets `WAVE` by the map 0 Sine, 1 Triangle, 2 Square, else None, and changes
nothing else (R202, R207). -/
def Obligations.SetWaveResult : Prop :=
  ∀ (hi lo : BitVec 2) (s : State),
    exec (.setwave hi lo) s = .next { s with
      wave := if hi ||| lo = 0 then .sine else if hi ||| lo = 1 then .triangle
        else if hi ||| lo = 2 then .square else .none }

/-- `SETFREQ` completes in every state of a valid configuration: `FREQ` becomes `reg * D` exactly, all 29 bits of `reg`
used, nothing clamped, and nothing else changes (R203, R260, R263, R268). -/
def Obligations.SetFreqResult : Prop :=
  ∀ (reg : BitVec 29) (s : State), s.cfg.valid = true →
    ∃ f : BitVec 64, exec (.setfreq reg) s = .next { s with freq := f } ∧
      f.toNat = reg.toNat * (s.cfg.mclk * 1000 / 2 ^ 28)

/-- `QUERY` completes in every state of a valid configuration: `RESP` becomes the word with bits 31 and 28 zero, the
wave code in bits 30:29 and the saturated tuning word in bits 27:0, `RESP_VALID` becomes true, nothing else changes
(R107, R204, R208, R262). -/
def Obligations.QueryResult : Prop :=
  ∀ s : State, s.cfg.valid = true →
    ∃ r : Word, exec .query s = .next { s with resp := r, respValid := true } ∧
      r.getLsbD 31 = false ∧ r.getLsbD 28 = false ∧
      (r >>> 29) = (match s.wave with | .square => 1#32 | .sine => 2#32 | .triangle => 3#32 | .none => 0#32) ∧
      (r &&& 0x0FFFFFFF).toNat =
        (min s.freq.toNat (s.cfg.mclk * 500) + s.cfg.mclk * 1000 / 2 ^ 28 / 2) / (s.cfg.mclk * 1000 / 2 ^ 28)

/-- `STRCHUNK` with a slot up to 4 completes in every state: the four bytes at `slot * 3` are written, the target's
changed flag is set, and no other byte, buffer or register changes (R205, R231, R233, R239). -/
def Obligations.ChunkAcceptedResult : Prop :=
  ∀ (k : BitVec 3) (a b c : Char7) (s : State), k.toNat ≤ 4 →
    (∃ v, exec (.strchunk .splash k a b c) s = .next { s with strSplash := v, chgSplash := true } ∧
      chunkWritten s.strSplash v (k.toNat * 3) a b c) ∧
    (∃ v, exec (.strchunk .companion k a b c) s = .next { s with strCompanion := v, chgCompanion := true } ∧
      chunkWritten s.strCompanion v (k.toNat * 3) a b c)

/-- `STRCHUNK` with slot 5, 6 or 7 is rejected whole: it only logs `InvalidStringSlot` (R232, R234). -/
def Obligations.ChunkRejectedResult : Prop :=
  ∀ (d : DisplayString) (k : BitVec 3) (a b c : Char7) (s : State), 5 ≤ k.toNat →
    exec (.strchunk d k a b c) s = .next { s with events := s.events ++ [.invalidStringSlot] }

/-- `IGN2`, `IGN3`, `IGN4` and `IGN6` complete in every state and only log `UnknownTag` (R206). -/
def Obligations.IgnoredTagsResult : Prop :=
  ∀ s : State,
    exec .ign2 s = .next { s with events := s.events ++ [.unknownTag] } ∧
    exec .ign3 s = .next { s with events := s.events ++ [.unknownTag] } ∧
    exec .ign4 s = .next { s with events := s.events ++ [.unknownTag] } ∧
    exec .ign6 s = .next { s with events := s.events ++ [.unknownTag] }

/-- A response word fed back as a command decodes by its wave code (R213). -/
def Obligations.ResponseFedBackDecodes : Prop :=
  ∀ (c : Config) (f : BitVec 64), c.valid = true →
    (∃ hi lo, decode (responseWord c .none f) = .setwave hi lo) ∧
    (∃ reg, decode (responseWord c .square f) = .setfreq reg ∧ reg.toNat = freqToReg c f.toNat) ∧
    decode (responseWord c .sine f) = .ign2 ∧ decode (responseWord c .triangle f) = .ign3

/-- No command reads or writes a bus-side register or the queue: changing them before it runs is changing them after
(R212). -/
def Obligations.CommandsNeverTouchBusState : Prop :=
  ∀ (i : Instr) (s : State) (armed : Bool) (addr : BitVec 7) (b : BusState) (rx : List Byte) (rl : Nat)
    (tx : Vector Byte 4) (tl ti : Nat) (q : List Word),
    ∃ t, exec i s = .next t ∧
      exec i { s with
        armed := armed, slaveAddr := addr, busState := b, rxBuf := rx, rxLen := rl, txBuf := tx, txLen := tl,
        txIdx := ti, queue := q } = .next { t with
        armed := armed, slaveAddr := addr, busState := b, rxBuf := rx, rxLen := rl, txBuf := tx, txLen := tl,
        txIdx := ti, queue := q }

/-! ### Strings -/

/-- An accepted chunk applied twice in a row leaves the state of applying it once (R92, R231). -/
def Obligations.ChunkTwiceIsOnce : Prop :=
  ∀ (d : DisplayString) (k : BitVec 3) (a b c : Char7) (s : State), k.toNat ≤ 4 →
    ∃ t, exec (.strchunk d k a b c) s = .next t ∧ exec (.strchunk d k a b c) t = .next t

/-- After an accepted chunk the shown text ends no later than the chunk's terminator, at index `3 * slot + 3` (R236). -/
def Obligations.ChunkTerminatorEndsText : Prop :=
  ∀ (d : DisplayString) (k : BitVec 3) (a b c : Char7) (s : State), k.toNat ≤ 4 →
    ∃ t, exec (.strchunk d k a b c) s = .next t ∧ (shownText (t.str d)).length ≤ 3 * k.toNat + 3

/-- `SETSTR` takes a text of at most 15 characters and refuses a longer one; executed in any state, its chunks make the
target string show exactly that text and set its changed flag, and change no other register (R118, R236, R238, R239). -/
def Obligations.SetStrShowsText : Prop :=
  ∀ (d : DisplayString) (text : List Char7) (s : State),
    (15 < text.length → setStr d text = none) ∧
    (text.length ≤ 15 → (∀ c ∈ text, c ≠ 0) →
      ∃ is v, setStr d text = some is ∧ execList is s = .next ((s.setStr d v).setChg d true) ∧
        shownText v = text.map (fun c => c.setWidth 8))

/-! ### The frequency codec -/

/-- In a valid configuration the divisor is at least 1, the rounding term is below it, the largest tuning word fits 28
bits and every product fits 64 bits (R261, R268). -/
def Obligations.CodecConstantsInRange : Prop :=
  ∀ c : Config, c.valid = true →
    1 ≤ c.divisor ∧ c.half < c.divisor ∧ c.rsat < 2 ^ 28 ∧ c.fmax + c.half < 2 ^ 64 ∧
      (∀ f, freqToReg c f ≤ c.rsat) ∧ ∀ reg, reg < 2 ^ 29 → regToFreq c reg < 2 ^ 64

/-- `freqToReg(regToFreq(reg)) = reg` up to `RSAT`, and above it the result is `RSAT` (R265). -/
def Obligations.TuningRoundTrip : Prop :=
  ∀ (c : Config) (reg : Nat), c.valid = true →
    (reg ≤ c.rsat → freqToReg c (regToFreq c reg) = reg) ∧
    (c.rsat < reg → freqToReg c (regToFreq c reg) = c.rsat)

/-- `nearestFreq(nearestFreq(f)) = nearestFreq(f)` for every frequency (R266). -/
def Obligations.NearestFreqIdempotent : Prop :=
  ∀ (c : Config) (f : Nat), c.valid = true → nearestFreq c (nearestFreq c f) = nearestFreq c f

/-- `freqToReg` is non-decreasing and `regToFreq` strictly increasing (R267). -/
def Obligations.CodecMonotone : Prop :=
  ∀ (c : Config) (x y : Nat), c.valid = true →
    (x ≤ y → freqToReg c x ≤ freqToReg c y) ∧ (x < y → regToFreq c x < regToFreq c y)

/-- Up to `FMAX`, the nearest frequency is within half a step: `nearestFreq(f) - f` lies in `[-(D - H - 1), H]` (R264). -/
def Obligations.NearestFreqWithinHalfStep : Prop :=
  ∀ (c : Config) (f : Nat), c.valid = true → f ≤ c.fmax →
    -((c.divisor : Int) - c.half - 1) ≤ (nearestFreq c f : Int) - f ∧ (nearestFreq c f : Int) - f ≤ c.half

/-- `freqToReg` rounds up exactly when `min(f, FMAX) mod D ≥ D - H`, and saturates above `FMAX` (R262). -/
def Obligations.FreqToRegRounding : Prop :=
  ∀ (c : Config) (f : Nat), c.valid = true →
    (c.divisor - c.half ≤ min f c.fmax % c.divisor → freqToReg c f = min f c.fmax / c.divisor + 1) ∧
    (min f c.fmax % c.divisor < c.divisor - c.half → freqToReg c f = min f c.fmax / c.divisor) ∧
    (c.fmax < f → freqToReg c f = c.rsat)

/-- `nearestFreq` never exceeds `FMAX` by more than `H`, and does not exceed it when `RSAT * D ≤ FMAX`; at
`MCLK = 805,309` it exceeds it by 1 (R269). -/
def Obligations.NearestFreqAboveMax : Prop :=
  (∀ (c : Config) (f : Nat), c.valid = true →
    nearestFreq c f ≤ c.fmax + c.half ∧ (c.rsat * c.divisor ≤ c.fmax → nearestFreq c f ≤ c.fmax)) ∧
  nearestFreq { rxCap := 8, qCap := 4, mclk := 805309 } 402654500 = 402654501

/-! ### The FIFO -/

/-- `Enqueue` appends when there is room, else drops the word with one `QueueSaturated` record (R80). -/
def Obligations.EnqueueAppendsOrDrops : Prop :=
  ∀ (w : Word) (s : State),
    (s.queue.length < s.cfg.qCap → enqueue w s = { s with queue := s.queue ++ [w] }) ∧
    (s.cfg.qCap ≤ s.queue.length → enqueue w s = { s with events := s.events ++ [.queueSaturated] })

/-- `popCommand` returns and removes the oldest word; on an empty queue it sets `FAULT` (R81, R174, R292). -/
def Obligations.PopTakesOldestOrFaults : Prop :=
  ∀ s : State,
    (∀ w rest, s.queue = w :: rest → popCommand s = (some w, { s with queue := rest })) ∧
    (s.queue = [] → popCommand s = (none, { s with fault := true }))

/-- A write transaction of whole words enqueues the first of them that fit, in order, and drops the rest, each with one
record; the scratch is emptied and nothing else changes (R137, R146). -/
def Obligations.TransactionKeepsFirstWords : Prop :=
  ∀ s : State, s.busState = .addressedAsReceiver → s.rxLen % 4 = 0 → rxBounded s → queueBounded s →
    (wordsOf (s.rxBuf.take s.rxLen)).length = s.rxLen / 4 ∧
    busEvent .term s = { s with
      queue := s.queue ++ (wordsOf (s.rxBuf.take s.rxLen)).take (s.cfg.qCap - s.queue.length)
      events := s.events ++
        List.replicate (s.rxLen / 4 - (s.cfg.qCap - s.queue.length)) .queueSaturated
      rxLen := 0
      busState := .idle }

/-- The ring-buffer realisation keeps its ranges (R82) and its tail `QCOUNT` words after its head (no sentence of R82: it
follows from the rule's updates, DEDUCED, log entry 8), and its sequence view does what `QUEUE` does under `Enqueue`,
`Dequeue` and the emptying by the port operation of R170 (R80 to R82). -/
def Obligations.RingRefinesQueue : Prop :=
  ∀ (n : Nat) (r : Ring) (w : Word), 1 ≤ n → ringOk n r = true →
    (ringOk n (ringEnqueue n w r) = true ∧
      ringView n (ringEnqueue n w r) =
        if (ringView n r).length < n then ringView n r ++ [w] else ringView n r) ∧
    (ringView n r = [] → ringDequeue n r = none) ∧
    (∀ v rest, ringView n r = v :: rest →
      ∃ r', ringDequeue n r = some (v, r') ∧ ringOk n r' = true ∧ ringView n r' = rest) ∧
    ringOk n (ringClear r) = true ∧ ringView n (ringClear r) = []

/-! ### Bus events -/

/-- `AddrW` with a match, from `Idle`: acknowledge, start a receive, empty the scratch; nothing else changes (R131). -/
def Obligations.AddressMatchStartsReceive : Prop :=
  ∀ s : State, s.busState = .idle → s.armed = true →
    busEvent (.addrW s.slaveAddr) s = { s with
      rxLen := 0, busState := .addressedAsReceiver, answers := s.answers ++ [.bus .ack] }

/-- An address with no match, from `Idle`, is not acknowledged and changes nothing; no address matches while the slave
is not armed (R132). -/
def Obligations.AddressMismatchRefused : Prop :=
  ∀ (s : State) (a : BitVec 7), s.busState = .idle → (s.armed = false ∨ a ≠ s.slaveAddr) →
    busEvent (.addrW a) s = { s with answers := s.answers ++ [.bus .nack] } ∧
    busEvent (.addrR a) s = { s with answers := s.answers ++ [.bus .nack] }

/-- An address event while addressed first has the effect of `Term`, then that of the address rule from `Idle`, in one
step (R133). -/
def Obligations.AddressWhileAddressedEndsFirst : Prop :=
  ∀ (s : State) (a : BitVec 7), s.busState ≠ .idle →
    (busEvent .term s).busState = .idle ∧
    busEvent (.addrW a) s = busEvent (.addrW a) (busEvent .term s) ∧
    busEvent (.addrR a) s = busEvent (.addrR a) (busEvent .term s)

/-- A data byte is held and acknowledged while there is room, refused and logged when the scratch is full, and ignored
when the slave is not receiving (R134, R135, R136). -/
def Obligations.DataByteHeldRefusedOrIgnored : Prop :=
  ∀ (s : State) (b : Byte),
    (s.busState = .addressedAsReceiver → s.rxLen < s.cfg.rxCap →
      busEvent (.rxByte b) s = { s with
        rxBuf := s.rxBuf.set s.rxLen b, rxLen := s.rxLen + 1, answers := s.answers ++ [.bus .ack] }) ∧
    (s.busState = .addressedAsReceiver → s.rxLen = s.cfg.rxCap →
      busEvent (.rxByte b) s = { s with
        events := s.events ++ [.receiveOverflow], answers := s.answers ++ [.bus .nack] }) ∧
    (s.busState ≠ .addressedAsReceiver →
      busEvent (.rxByte b) s = { s with answers := s.answers ++ [.bus .silent] })

/-- `Term` discards a write whose length is not a multiple of 4, whole and with one record; it ends a read leaving the
transmit scratch and the response slot as they are; it does nothing in `Idle` (R137, R143, R144). -/
def Obligations.TermDiscardsMalformed : Prop :=
  ∀ s : State,
    (s.busState = .addressedAsReceiver → s.rxLen % 4 ≠ 0 →
      busEvent .term s = { s with
        events := s.events ++ [.malformedTransaction], rxLen := 0, busState := .idle }) ∧
    (s.busState = .addressedAsTransmitter → busEvent .term s = { s with busState := .idle }) ∧
    (s.busState = .idle → busEvent .term s = s)

/-- `Term` of a write of whole words assembles word `k` from bytes `4k` to `4k+3`, first-arrived byte most significant,
and appends the words in order (R72, R137). -/
def Obligations.TermAssemblesBigEndianWords : Prop :=
  ∀ s : State, s.busState = .addressedAsReceiver → s.rxLen % 4 = 0 → rxBounded s →
    s.queue.length + s.rxLen / 4 ≤ s.cfg.qCap →
    ∃ ws : List Word, (busEvent .term s).queue = s.queue ++ ws ∧ ws.length = s.rxLen / 4 ∧
      ∀ k, k < s.rxLen / 4 → ws.getD k 0 =
        (s.rxBuf.getD (4 * k) 0).setWidth 32 <<< 24 ||| (s.rxBuf.getD (4 * k + 1) 0).setWidth 32 <<< 16 |||
        (s.rxBuf.getD (4 * k + 2) 0).setWidth 32 <<< 8 ||| (s.rxBuf.getD (4 * k + 3) 0).setWidth 32

/-- A read with a response available acknowledges, sends `RESP` least significant byte first, and leaves `RESP` as it is,
so that the next read sends the same (R73, R109, R138, R139, R143). -/
def Obligations.ReadServesResponseLittleEndian : Prop :=
  ∀ s : State, s.busState = .idle → s.armed = true → s.respValid = true →
    ∃ b0 b1 b2 b3 : Byte,
      b0 = (s.resp >>> 0).setWidth 8 ∧ b1 = (s.resp >>> 8).setWidth 8 ∧ b2 = (s.resp >>> 16).setWidth 8 ∧
      b3 = (s.resp >>> 24).setWidth 8 ∧
      busRun (readFrame s.slaveAddr 4) s = { s with
        txBuf := #v[b0, b1, b2, b3], txLen := 4, txIdx := 4
        answers := s.answers ++ [.bus .ack, .bus (.out b0), .bus (.out b1), .bus (.out b2), .bus (.out b3)] }

/-- A read with no response available serves the single byte 0x00; a further byte is a free value, drawn anew, and no
register changes by it (R110, R138, R140; log entry 4). -/
def Obligations.DefaultReadServesOneZero : Prop :=
  ∀ s : State, s.busState = .idle → s.armed = true → s.respValid = false →
    busRun (readFrame s.slaveAddr 2) s = { s with
      txBuf := s.txBuf.set 0 0, txLen := 1, txIdx := 1, draws := s.draws + 1
      answers := s.answers ++ [.bus .ack, .bus (.out 0), .bus (.out (Config.overrunByte s.draws))] }

/-- A read byte: the captured byte at `TXIDX`, whatever the master's acknowledge; a free byte past the captured ones with
no register changed; no answer when not transmitting (R139, R140, R141, R142; log entry 4). -/
def Obligations.ReadByteServedOverrunOrSilent : Prop :=
  ∀ (s : State) (m : MasterAck),
    (∀ h : s.txIdx < 4, s.busState = .addressedAsTransmitter → s.txIdx < s.txLen →
      busEvent (.txByte m) s = { s with
        txIdx := s.txIdx + 1, answers := s.answers ++ [.bus (.out s.txBuf[s.txIdx])] }) ∧
    (s.busState = .addressedAsTransmitter → s.txIdx = s.txLen →
      busEvent (.txByte m) s = { s with
        draws := s.draws + 1, answers := s.answers ++ [.bus (.out (Config.overrunByte s.draws))] }) ∧
    (s.busState ≠ .addressedAsTransmitter →
      busEvent (.txByte m) s = { s with answers := s.answers ++ [.bus .silent] })

/-- `BusErr`, in any state: log it, reset the scratch lengths, return to `Idle`; nothing else changes (R145). -/
def Obligations.BusErrorReturnsToIdle : Prop :=
  ∀ s : State,
    busEvent .busErr s = { s with
      events := s.events ++ [.busError], rxLen := 0, txLen := 0, txIdx := 0, busState := .idle }

/-- No bus event reads or writes `WAVE`, `FREQ`, `STR`, `CHG`, `DISP_WORD` or `DISABLE_PENDING`: changing them before it
is changing them after; and it writes none of `ARMED`, `SLAVE_ADDR`, `RESP`, `RESP_VALID` (R94, R148). -/
def Obligations.BusNeverTouchesCoreState : Prop :=
  ∀ (e : BusEvent) (s : State) (w : Wave) (f : BitVec 64) (v0 v1 : Vector Byte 17) (c0 c1 : Bool)
    (dw : Option Word) (dp : Bool),
    busEvent e { s with
      wave := w, freq := f, strSplash := v0, strCompanion := v1, chgSplash := c0, chgCompanion := c1,
      dispWord := dw, disablePending := dp } =
    { busEvent e s with
      wave := w, freq := f, strSplash := v0, strCompanion := v1, chgSplash := c0, chgCompanion := c1,
      dispWord := dw, disablePending := dp } ∧
    (busEvent e s).armed = s.armed ∧ (busEvent e s).slaveAddr = s.slaveAddr ∧ (busEvent e s).resp = s.resp ∧
    (busEvent e s).respValid = s.respValid

/-- The outcome of a write transaction of any number of data bytes, row by row of R149: bytes acknowledged and refused,
words enqueued, records logged (R149). -/
def Obligations.WriteTransactionOutcome : Prop :=
  ∀ (s : State) (bytes : List Byte), s.busState = .idle → s.armed = true → s.rxBuf.length = s.cfg.rxCap →
    s.queue.length + min bytes.length s.cfg.rxCap / 4 ≤ s.cfg.qCap →
    ∃ t, busRun (writeFrame s.slaveAddr bytes) s = t ∧ t.busState = .idle ∧ t.rxLen = 0 ∧
      t.answers = s.answers ++ [.bus .ack] ++ List.replicate (min bytes.length s.cfg.rxCap) (.bus .ack) ++
        List.replicate (bytes.length - s.cfg.rxCap) (.bus .nack) ∧
      (min bytes.length s.cfg.rxCap % 4 = 0 →
        t.queue = s.queue ++ wordsOf (bytes.take s.cfg.rxCap) ∧
        t.events = s.events ++ List.replicate (bytes.length - s.cfg.rxCap) .receiveOverflow) ∧
      (min bytes.length s.cfg.rxCap % 4 ≠ 0 →
        t.queue = s.queue ∧
        t.events = s.events ++ List.replicate (bytes.length - s.cfg.rxCap) .receiveOverflow ++
          [.malformedTransaction])

/-- A `QUERY` written on the bus, popped and executed is answered by the next read: the four bytes of the response word
that the device's wave type and frequency make (R108, R109, R137, R138, R200, R204, R325). -/
def Obligations.QueryAnswerReadBack : Prop :=
  ∀ s : State, s.Inv → 4 ≤ s.cfg.rxCap → s.busState = .idle → s.armed = true → s.queue = [] →
    s.dispWord = none → s.fault = false →
    ∃ t r, executeStage (encode .query) (popStage (busRun (writeFrame s.slaveAddr (bytesOfWord (encode .query))) s)) =
        .next t ∧
      r = responseWord s.cfg s.wave s.freq ∧
      (popStage (busRun (writeFrame s.slaveAddr (bytesOfWord (encode .query))) s)).dispWord = some (encode .query) ∧
      (busRun (readFrame s.slaveAddr 4) t).answers = t.answers ++
        [.bus .ack, .bus (.out (r.setWidth 8)), .bus (.out ((r >>> 8).setWidth 8)),
          .bus (.out ((r >>> 16).setWidth 8)), .bus (.out ((r >>> 24).setWidth 8))]

/-! ### Ports -/

/-- `initialize(a)`: the transport registers and the two shared buffers are reset, the slave is armed at the low 7 bits
of `a`, all other state is unchanged; a second call leaves the same state (R170, R178, R321). -/
def Obligations.InitializeResetsTransport : Prop :=
  ∀ (s : State) (a : Nat),
    (∃ addr : BitVec 7, addr.toNat = a % 128 ∧
      portCall (.initializeSlave a) s = { s with
        slaveAddr := addr, queue := [], resp := 0, respValid := false, rxLen := 0, txLen := 0, txIdx := 0,
        busState := .idle, armed := true }) ∧
    portCall (.initializeSlave a) (portCall (.initializeSlave a) s) = portCall (.initializeSlave a) s

/-- `disable`, both steps from an idle bus, then `initialize(a)`: the queue is empty, the slave armed, and `AddrW` of the
new address is acknowledged; between them no address was (R171, R172, R179). -/
def Obligations.DisableThenInitializeAdmits : Prop :=
  ∀ (s : State) (a : Nat) (x : BitVec 7), s.busState = .idle →
    portCall .disable s = { s with armed := false, disablePending := true } ∧
    disableComplete (portCall .disable s) = { s with armed := false, disablePending := false } ∧
    (busEvent (.addrW x) (portCall .disable s)).answers = s.answers ++ [.bus .nack] ∧
    ∃ t, portCall (.initializeSlave a) (disableComplete (portCall .disable s)) = t ∧ t.queue = [] ∧ t.armed = true ∧
      (busEvent (.addrW (BitVec.ofNat 7 a)) t).answers = t.answers ++ [.bus .ack] ∧
      (busEvent (.addrW (BitVec.ofNat 7 a)) t).busState = .addressedAsReceiver

/-- `pushResponse` overwrites the slot unconditionally and marks it valid; `hasPendingCommand` answers whether a word is
queued and changes no register (R173, R175). -/
def Obligations.PushAndPendingPorts : Prop :=
  ∀ (s : State) (w : Word),
    portCall (.pushResponse w) s = { s with resp := w, respValid := true } ∧
    portCall .hasPendingCommand s = { s with answers := s.answers ++ [.pending (decide (s.queue.length > 0))] }

/-- Once `hasPendingCommand` is true it stays true whatever the bus does, and the pop that follows returns the word that
was oldest then and does not fault (R90, R173, R177). -/
def Obligations.PendingStaysTrueUnderBus : Prop :=
  ∀ (s : State) (es : List BusEvent), hasPendingCommand s = true →
    hasPendingCommand (busRun es s) = true ∧
    ∃ t, popCommand (busRun es s) = (s.queue.head?, t) ∧ t.fault = s.fault

/-- From power-on, whatever the configuration, the launch draws and the bus events, no word is queued and the slave
never acknowledges nor drives (R56, R180, R322). -/
def Obligations.UnarmedTakesNoPart : Prop :=
  ∀ (c : Config) (l : Launch) (es : List BusEvent),
    (busRun es (State.powerOn c l)).queue = [] ∧ (busRun es (State.powerOn c l)).armed = false ∧
    ∀ x ∈ (busRun es (State.powerOn c l)).answers, x = .bus .nack ∨ x = .bus .silent

/-- The device port stores and returns exactly; the display port's `isChanged` and `get` change no register and `reset`
clears the flag (R52, R55). -/
def Obligations.DeviceAndDisplayPorts : Prop :=
  ∀ (s : State) (t : Wave) (f : BitVec 64),
    uiAccess (.setWaveType t) s = { s with wave := t } ∧
    uiAccess (.setFrequency f) s = { s with freq := f } ∧
    uiAccess .getWaveType s = { s with answers := s.answers ++ [.waveType s.wave] } ∧
    uiAccess .getFrequency s = { s with answers := s.answers ++ [.frequency s.freq] } ∧
    lcdAccess (.isChanged .splash) s = { s with answers := s.answers ++ [.changed s.chgSplash] } ∧
    lcdAccess (.isChanged .companion) s = { s with answers := s.answers ++ [.changed s.chgCompanion] } ∧
    lcdAccess (.reset .splash) s = { s with chgSplash := false } ∧
    lcdAccess (.reset .companion) s = { s with chgCompanion := false } ∧
    lcdAccess (.get .splash) s = { s with answers := s.answers ++ [.text s.strSplash] } ∧
    lcdAccess (.get .companion) s = { s with answers := s.answers ++ [.text s.strCompanion] }

/-! ### The step -/

/-- A step runs the decoded command: when CORE's turn finds a word in `DISP_WORD`, the step is `exec` of the decoded word
and then empties `DISP_WORD`; the turn it used is gone from `turns` (R200, R201; the turns are the model's own, log
entry 5). -/
def Obligations.StepRunsDecodedCommand : Prop :=
  ∀ (s : State) (w : Word), s.cfg.valid = true → s.fault = false → nextAgent s = .core → s.dispWord = some w →
    ∃ t, exec (decode w) { s with turns := s.turns.tail } = .next t ∧ step s = .next { t with dispWord := none }

/-- CORE's turn with nothing else to do pops the oldest word into `DISP_WORD`, and leaves the state as it is when there is
none (R200, R31; the turns are the model's own, log entry 5). -/
def Obligations.StepPopsOldestWord : Prop :=
  ∀ s : State, s.cfg.valid = true → s.fault = false → nextAgent s = .core → s.dispWord = none →
    s.disablePending = false → s.coreInput = [] →
    (∀ w rest, s.queue = w :: rest →
      step s = .next { s with turns := s.turns.tail, queue := rest, dispWord := some w }) ∧
    (s.queue = [] → step s = .next { s with turns := s.turns.tail })

/-- A BUS turn takes the next bus event, between any two CORE steps (R85, R294; the turns are the model's own, log
entry 5). -/
def Obligations.StepTakesBusEvent : Prop :=
  ∀ (s : State) (e : BusEvent) (es : List BusEvent), s.cfg.valid = true → s.fault = false →
    nextAgent s = .bus → s.busInput = e :: es →
    step s = .next (busEvent e { s with turns := s.turns.tail, busInput := es })

/-- A CORE turn with no word in `DISP_WORD` and no `disable` pending takes the loop's next action, but for a
`popCommand` with nothing queued (R176, R297; the turns are the model's own, log entry 5). -/
def Obligations.StepTakesCoreAction : Prop :=
  ∀ (s : State) (a : CoreAction) (rest : List CoreAction), s.cfg.valid = true → s.fault = false →
    nextAgent s = .core → s.dispWord = none → s.disablePending = false → s.coreInput = a :: rest →
    (a ≠ .port .popCommand ∨ s.queue ≠ []) →
    step s = .next (coreAction a { s with turns := s.turns.tail, coreInput := rest })

/-- While `disable` is pending CORE takes no other step: it holds until the bus is `Idle`, and then completes (R42, R172,
R333; the turns are the model's own, log entry 5). -/
def Obligations.StepHoldsOrCompletesDisable : Prop :=
  ∀ s : State, s.cfg.valid = true → s.fault = false → nextAgent s = .core → s.dispWord = none →
    s.disablePending = true →
    (s.busState = .idle → step s = .next { s with turns := s.turns.tail, disablePending := false }) ∧
    (s.busState ≠ .idle → step s = .next { s with turns := s.turns.tail })

/-- The machine stops only as the spec says: it refuses exactly a configuration out of range; it faults exactly when
`FAULT` is set already or CORE calls `popCommand` on an empty queue; in every other state it goes on (R59, R115, R174,
R261, R290, R292, R330). That the fault is answered again at every later step is the model's reading of R59 and R292
(DEDUCED, log entry 11); that a turn whose agent has nothing to do (no bus event left, nothing queued, `disable` holding)
answers a next state, and what the interleaving's lists are, is the model's choice (log entry 5). -/
def Obligations.StepStopsOnlyAsStated : Prop :=
  ∀ s : State,
    (s.cfg.valid = false → step s = .refused .badConfiguration) ∧
    (s.cfg.valid = true → (s.fault = true ∨ popsEmpty s) → step s = .fault .popEmpty) ∧
    (s.cfg.valid = true → s.fault = false → ¬ popsEmpty s → ∃ t, step s = .next t)

/-- The invariant is kept by every step: the FIFO bound, the ranges of the scratch indices, the legal power states, no
word dispatched while `disable` is pending, a clear slot until a response is pushed, 7-bit strings whose last two bytes
are never written (R35, R36, R39, R56, R171, R200, R237, R238, R299). -/
def Obligations.InvariantKept : Prop :=
  ∀ s t : State, s.Inv → Sys2Proof.core.step s = .next t → State.Inv t

/-- At power-on every register has the value of R56, and the invariant holds, for every valid configuration and every
launch draw; `State.reset` is such a state (R56, R59, R320; the configuration and the draws of `State.reset` are the
model's, log entries 1 and 2). -/
def Obligations.PowerOnState : Prop :=
  (∀ (c : Config) (l : Launch), c.valid = true →
    (State.powerOn c l).Inv ∧
    ∃ s, State.powerOn c l = s ∧ s.armed = false ∧ s.busState = .idle ∧ s.rxLen = 0 ∧ s.txLen = 0 ∧ s.txIdx = 0 ∧
      s.queue = [] ∧ s.resp = 0 ∧ s.respValid = false ∧ s.disablePending = false ∧ s.dispWord = none ∧
      (∀ i (h : i < 17), s.strSplash[i] = 0 ∧ s.strCompanion[i] = 0) ∧ s.chgSplash = false ∧
      s.chgCompanion = false ∧ s.events = [] ∧ s.fault = false) ∧
  ∃ c l, c.valid = true ∧ Sys2Proof.core.reset = State.powerOn c l

/-- What one step can do to `QUEUE`: a BUS step appends words and keeps those queued; a CORE step removes the oldest
word, or leaves the queue, or empties it by running `initialize`, with no word in `DISP_WORD` and no `disable` pending
(R38, R86, R90, R170, R176). That no step changes the configuration is the model's choice (log entry 1); `turns` and
`coreInput` are the model's own (log entry 5). -/
def Obligations.QueueOrderKept : Prop :=
  ∀ s t : State, step s = .next t →
    t.cfg = s.cfg ∧
    ((nextAgent s = .bus ∧ ∃ ws, t.queue = s.queue ++ ws) ∨
      (nextAgent s = .core ∧ (t.queue = s.queue ∨ (∃ w, s.queue = w :: t.queue) ∨
        (t.queue = [] ∧ s.dispWord = none ∧ s.disablePending = false ∧
          ∃ a, s.coreInput.head? = some (.port (.initializeSlave a))))))

/-- Who writes the response slot: only a CORE step that executes a `QUERY`, or that runs `pushResponse` or `initialize`,
changes `RESP` or `RESP_VALID` (R40, R44, R87, R209; `turns` and `coreInput` are the model's own, log entry 5). -/
def Obligations.ResponseSlotWriters : Prop :=
  ∀ s t : State, step s = .next t → (t.resp ≠ s.resp ∨ t.respValid ≠ s.respValid) →
    nextAgent s = .core ∧
    ((∃ w, s.dispWord = some w ∧ decode w = .query) ∨
      (s.dispWord = none ∧ s.disablePending = false ∧
        ((∃ w, s.coreInput.head? = some (.port (.pushResponse w))) ∨
          ∃ a, s.coreInput.head? = some (.port (.initializeSlave a)))))

/-- Who writes the display strings and the device: a string's bytes change only when an accepted chunk for it is
executed, and `WAVE` and `FREQ` only by a `SETWAVE` or `SETFREQ` executed or by ENV_UI's access, which the cooperative
loop makes with no word in `DISP_WORD` and no `disable` pending (R44, R52, R53, R200, R297; `turns` and `coreInput` are
the model's own, log entry 5). -/
def Obligations.StringAndDeviceWriters : Prop :=
  ∀ s t : State, step s = .next t →
    (∀ d, t.str d ≠ s.str d →
      nextAgent s = .core ∧ ∃ w k a b c, s.dispWord = some w ∧ decode w = .strchunk d k a b c ∧ k.toNat ≤ 4) ∧
    (t.wave ≠ s.wave →
      nextAgent s = .core ∧ ((∃ w hi lo, s.dispWord = some w ∧ decode w = .setwave hi lo) ∨
        (s.dispWord = none ∧ s.disablePending = false ∧
          s.coreInput.head? = some (.ui (.setWaveType t.wave))))) ∧
    (t.freq ≠ s.freq →
      nextAgent s = .core ∧ ((∃ w reg, s.dispWord = some w ∧ decode w = .setfreq reg) ∨
        (s.dispWord = none ∧ s.disablePending = false ∧
          s.coreInput.head? = some (.ui (.setFrequency t.freq)))))
end

