-- ==== Sys2Proof/Laws/State.lean ====
section
/-! SUPPORT. What each named update of the state leaves in each register: one lemma for each register and update, true
by unfolding, so that no later proof unfolds an update. -/

namespace Sys2Proof.Machine

/-! ### `log` -/

@[simp] theorem State.log_cfg (s : State) (e : ErrorEvent) : (s.log e).cfg = s.cfg := rfl
@[simp] theorem State.log_armed (s : State) (e : ErrorEvent) : (s.log e).armed = s.armed := rfl
@[simp] theorem State.log_slaveAddr (s : State) (e : ErrorEvent) : (s.log e).slaveAddr = s.slaveAddr := rfl
@[simp] theorem State.log_busState (s : State) (e : ErrorEvent) : (s.log e).busState = s.busState := rfl
@[simp] theorem State.log_rxBuf (s : State) (e : ErrorEvent) : (s.log e).rxBuf = s.rxBuf := rfl
@[simp] theorem State.log_rxLen (s : State) (e : ErrorEvent) : (s.log e).rxLen = s.rxLen := rfl
@[simp] theorem State.log_txBuf (s : State) (e : ErrorEvent) : (s.log e).txBuf = s.txBuf := rfl
@[simp] theorem State.log_txLen (s : State) (e : ErrorEvent) : (s.log e).txLen = s.txLen := rfl
@[simp] theorem State.log_txIdx (s : State) (e : ErrorEvent) : (s.log e).txIdx = s.txIdx := rfl
@[simp] theorem State.log_queue (s : State) (e : ErrorEvent) : (s.log e).queue = s.queue := rfl
@[simp] theorem State.log_resp (s : State) (e : ErrorEvent) : (s.log e).resp = s.resp := rfl
@[simp] theorem State.log_respValid (s : State) (e : ErrorEvent) : (s.log e).respValid = s.respValid := rfl
@[simp] theorem State.log_disablePending (s : State) (e : ErrorEvent) : (s.log e).disablePending = s.disablePending := rfl
@[simp] theorem State.log_dispWord (s : State) (e : ErrorEvent) : (s.log e).dispWord = s.dispWord := rfl
@[simp] theorem State.log_wave (s : State) (e : ErrorEvent) : (s.log e).wave = s.wave := rfl
@[simp] theorem State.log_freq (s : State) (e : ErrorEvent) : (s.log e).freq = s.freq := rfl
@[simp] theorem State.log_strSplash (s : State) (e : ErrorEvent) : (s.log e).strSplash = s.strSplash := rfl
@[simp] theorem State.log_strCompanion (s : State) (e : ErrorEvent) : (s.log e).strCompanion = s.strCompanion := rfl
@[simp] theorem State.log_chgSplash (s : State) (e : ErrorEvent) : (s.log e).chgSplash = s.chgSplash := rfl
@[simp] theorem State.log_chgCompanion (s : State) (e : ErrorEvent) : (s.log e).chgCompanion = s.chgCompanion := rfl
@[simp] theorem State.log_events (s : State) (e : ErrorEvent) : (s.log e).events = s.events ++ [e] := rfl
@[simp] theorem State.log_fault (s : State) (e : ErrorEvent) : (s.log e).fault = s.fault := rfl
@[simp] theorem State.log_draws (s : State) (e : ErrorEvent) : (s.log e).draws = s.draws := rfl
@[simp] theorem State.log_answers (s : State) (e : ErrorEvent) : (s.log e).answers = s.answers := rfl
@[simp] theorem State.log_turns (s : State) (e : ErrorEvent) : (s.log e).turns = s.turns := rfl
@[simp] theorem State.log_busInput (s : State) (e : ErrorEvent) : (s.log e).busInput = s.busInput := rfl
@[simp] theorem State.log_coreInput (s : State) (e : ErrorEvent) : (s.log e).coreInput = s.coreInput := rfl

/-! ### `raiseFault` -/

@[simp] theorem State.raiseFault_cfg (s : State) : (s.raiseFault).cfg = s.cfg := rfl
@[simp] theorem State.raiseFault_armed (s : State) : (s.raiseFault).armed = s.armed := rfl
@[simp] theorem State.raiseFault_slaveAddr (s : State) : (s.raiseFault).slaveAddr = s.slaveAddr := rfl
@[simp] theorem State.raiseFault_busState (s : State) : (s.raiseFault).busState = s.busState := rfl
@[simp] theorem State.raiseFault_rxBuf (s : State) : (s.raiseFault).rxBuf = s.rxBuf := rfl
@[simp] theorem State.raiseFault_rxLen (s : State) : (s.raiseFault).rxLen = s.rxLen := rfl
@[simp] theorem State.raiseFault_txBuf (s : State) : (s.raiseFault).txBuf = s.txBuf := rfl
@[simp] theorem State.raiseFault_txLen (s : State) : (s.raiseFault).txLen = s.txLen := rfl
@[simp] theorem State.raiseFault_txIdx (s : State) : (s.raiseFault).txIdx = s.txIdx := rfl
@[simp] theorem State.raiseFault_queue (s : State) : (s.raiseFault).queue = s.queue := rfl
@[simp] theorem State.raiseFault_resp (s : State) : (s.raiseFault).resp = s.resp := rfl
@[simp] theorem State.raiseFault_respValid (s : State) : (s.raiseFault).respValid = s.respValid := rfl
@[simp] theorem State.raiseFault_disablePending (s : State) : (s.raiseFault).disablePending = s.disablePending := rfl
@[simp] theorem State.raiseFault_dispWord (s : State) : (s.raiseFault).dispWord = s.dispWord := rfl
@[simp] theorem State.raiseFault_wave (s : State) : (s.raiseFault).wave = s.wave := rfl
@[simp] theorem State.raiseFault_freq (s : State) : (s.raiseFault).freq = s.freq := rfl
@[simp] theorem State.raiseFault_strSplash (s : State) : (s.raiseFault).strSplash = s.strSplash := rfl
@[simp] theorem State.raiseFault_strCompanion (s : State) : (s.raiseFault).strCompanion = s.strCompanion := rfl
@[simp] theorem State.raiseFault_chgSplash (s : State) : (s.raiseFault).chgSplash = s.chgSplash := rfl
@[simp] theorem State.raiseFault_chgCompanion (s : State) : (s.raiseFault).chgCompanion = s.chgCompanion := rfl
@[simp] theorem State.raiseFault_events (s : State) : (s.raiseFault).events = s.events := rfl
@[simp] theorem State.raiseFault_fault (s : State) : (s.raiseFault).fault = true := rfl
@[simp] theorem State.raiseFault_draws (s : State) : (s.raiseFault).draws = s.draws := rfl
@[simp] theorem State.raiseFault_answers (s : State) : (s.raiseFault).answers = s.answers := rfl
@[simp] theorem State.raiseFault_turns (s : State) : (s.raiseFault).turns = s.turns := rfl
@[simp] theorem State.raiseFault_busInput (s : State) : (s.raiseFault).busInput = s.busInput := rfl
@[simp] theorem State.raiseFault_coreInput (s : State) : (s.raiseFault).coreInput = s.coreInput := rfl

/-! ### `answer` -/

@[simp] theorem State.answer_cfg (s : State) (a : Answer) : (s.answer a).cfg = s.cfg := rfl
@[simp] theorem State.answer_armed (s : State) (a : Answer) : (s.answer a).armed = s.armed := rfl
@[simp] theorem State.answer_slaveAddr (s : State) (a : Answer) : (s.answer a).slaveAddr = s.slaveAddr := rfl
@[simp] theorem State.answer_busState (s : State) (a : Answer) : (s.answer a).busState = s.busState := rfl
@[simp] theorem State.answer_rxBuf (s : State) (a : Answer) : (s.answer a).rxBuf = s.rxBuf := rfl
@[simp] theorem State.answer_rxLen (s : State) (a : Answer) : (s.answer a).rxLen = s.rxLen := rfl
@[simp] theorem State.answer_txBuf (s : State) (a : Answer) : (s.answer a).txBuf = s.txBuf := rfl
@[simp] theorem State.answer_txLen (s : State) (a : Answer) : (s.answer a).txLen = s.txLen := rfl
@[simp] theorem State.answer_txIdx (s : State) (a : Answer) : (s.answer a).txIdx = s.txIdx := rfl
@[simp] theorem State.answer_queue (s : State) (a : Answer) : (s.answer a).queue = s.queue := rfl
@[simp] theorem State.answer_resp (s : State) (a : Answer) : (s.answer a).resp = s.resp := rfl
@[simp] theorem State.answer_respValid (s : State) (a : Answer) : (s.answer a).respValid = s.respValid := rfl
@[simp] theorem State.answer_disablePending (s : State) (a : Answer) : (s.answer a).disablePending = s.disablePending := rfl
@[simp] theorem State.answer_dispWord (s : State) (a : Answer) : (s.answer a).dispWord = s.dispWord := rfl
@[simp] theorem State.answer_wave (s : State) (a : Answer) : (s.answer a).wave = s.wave := rfl
@[simp] theorem State.answer_freq (s : State) (a : Answer) : (s.answer a).freq = s.freq := rfl
@[simp] theorem State.answer_strSplash (s : State) (a : Answer) : (s.answer a).strSplash = s.strSplash := rfl
@[simp] theorem State.answer_strCompanion (s : State) (a : Answer) : (s.answer a).strCompanion = s.strCompanion := rfl
@[simp] theorem State.answer_chgSplash (s : State) (a : Answer) : (s.answer a).chgSplash = s.chgSplash := rfl
@[simp] theorem State.answer_chgCompanion (s : State) (a : Answer) : (s.answer a).chgCompanion = s.chgCompanion := rfl
@[simp] theorem State.answer_events (s : State) (a : Answer) : (s.answer a).events = s.events := rfl
@[simp] theorem State.answer_fault (s : State) (a : Answer) : (s.answer a).fault = s.fault := rfl
@[simp] theorem State.answer_draws (s : State) (a : Answer) : (s.answer a).draws = s.draws := rfl
@[simp] theorem State.answer_answers (s : State) (a : Answer) : (s.answer a).answers = s.answers ++ [a] := rfl
@[simp] theorem State.answer_turns (s : State) (a : Answer) : (s.answer a).turns = s.turns := rfl
@[simp] theorem State.answer_busInput (s : State) (a : Answer) : (s.answer a).busInput = s.busInput := rfl
@[simp] theorem State.answer_coreInput (s : State) (a : Answer) : (s.answer a).coreInput = s.coreInput := rfl

/-! ### `answerBus` -/

@[simp] theorem State.answerBus_cfg (s : State) (a : BusAnswer) : (s.answerBus a).cfg = s.cfg := rfl
@[simp] theorem State.answerBus_armed (s : State) (a : BusAnswer) : (s.answerBus a).armed = s.armed := rfl
@[simp] theorem State.answerBus_slaveAddr (s : State) (a : BusAnswer) : (s.answerBus a).slaveAddr = s.slaveAddr := rfl
@[simp] theorem State.answerBus_busState (s : State) (a : BusAnswer) : (s.answerBus a).busState = s.busState := rfl
@[simp] theorem State.answerBus_rxBuf (s : State) (a : BusAnswer) : (s.answerBus a).rxBuf = s.rxBuf := rfl
@[simp] theorem State.answerBus_rxLen (s : State) (a : BusAnswer) : (s.answerBus a).rxLen = s.rxLen := rfl
@[simp] theorem State.answerBus_txBuf (s : State) (a : BusAnswer) : (s.answerBus a).txBuf = s.txBuf := rfl
@[simp] theorem State.answerBus_txLen (s : State) (a : BusAnswer) : (s.answerBus a).txLen = s.txLen := rfl
@[simp] theorem State.answerBus_txIdx (s : State) (a : BusAnswer) : (s.answerBus a).txIdx = s.txIdx := rfl
@[simp] theorem State.answerBus_queue (s : State) (a : BusAnswer) : (s.answerBus a).queue = s.queue := rfl
@[simp] theorem State.answerBus_resp (s : State) (a : BusAnswer) : (s.answerBus a).resp = s.resp := rfl
@[simp] theorem State.answerBus_respValid (s : State) (a : BusAnswer) : (s.answerBus a).respValid = s.respValid := rfl
@[simp] theorem State.answerBus_disablePending (s : State) (a : BusAnswer) : (s.answerBus a).disablePending = s.disablePending := rfl
@[simp] theorem State.answerBus_dispWord (s : State) (a : BusAnswer) : (s.answerBus a).dispWord = s.dispWord := rfl
@[simp] theorem State.answerBus_wave (s : State) (a : BusAnswer) : (s.answerBus a).wave = s.wave := rfl
@[simp] theorem State.answerBus_freq (s : State) (a : BusAnswer) : (s.answerBus a).freq = s.freq := rfl
@[simp] theorem State.answerBus_strSplash (s : State) (a : BusAnswer) : (s.answerBus a).strSplash = s.strSplash := rfl
@[simp] theorem State.answerBus_strCompanion (s : State) (a : BusAnswer) : (s.answerBus a).strCompanion = s.strCompanion := rfl
@[simp] theorem State.answerBus_chgSplash (s : State) (a : BusAnswer) : (s.answerBus a).chgSplash = s.chgSplash := rfl
@[simp] theorem State.answerBus_chgCompanion (s : State) (a : BusAnswer) : (s.answerBus a).chgCompanion = s.chgCompanion := rfl
@[simp] theorem State.answerBus_events (s : State) (a : BusAnswer) : (s.answerBus a).events = s.events := rfl
@[simp] theorem State.answerBus_fault (s : State) (a : BusAnswer) : (s.answerBus a).fault = s.fault := rfl
@[simp] theorem State.answerBus_draws (s : State) (a : BusAnswer) : (s.answerBus a).draws = s.draws := rfl
@[simp] theorem State.answerBus_answers (s : State) (a : BusAnswer) : (s.answerBus a).answers = s.answers ++ [.bus a] := rfl
@[simp] theorem State.answerBus_turns (s : State) (a : BusAnswer) : (s.answerBus a).turns = s.turns := rfl
@[simp] theorem State.answerBus_busInput (s : State) (a : BusAnswer) : (s.answerBus a).busInput = s.busInput := rfl
@[simp] theorem State.answerBus_coreInput (s : State) (a : BusAnswer) : (s.answerBus a).coreInput = s.coreInput := rfl

/-! ### `setResp` -/

@[simp] theorem State.setResp_cfg (s : State) (w : Word) (b : Bool) : (s.setResp w b).cfg = s.cfg := rfl
@[simp] theorem State.setResp_armed (s : State) (w : Word) (b : Bool) : (s.setResp w b).armed = s.armed := rfl
@[simp] theorem State.setResp_slaveAddr (s : State) (w : Word) (b : Bool) : (s.setResp w b).slaveAddr = s.slaveAddr := rfl
@[simp] theorem State.setResp_busState (s : State) (w : Word) (b : Bool) : (s.setResp w b).busState = s.busState := rfl
@[simp] theorem State.setResp_rxBuf (s : State) (w : Word) (b : Bool) : (s.setResp w b).rxBuf = s.rxBuf := rfl
@[simp] theorem State.setResp_rxLen (s : State) (w : Word) (b : Bool) : (s.setResp w b).rxLen = s.rxLen := rfl
@[simp] theorem State.setResp_txBuf (s : State) (w : Word) (b : Bool) : (s.setResp w b).txBuf = s.txBuf := rfl
@[simp] theorem State.setResp_txLen (s : State) (w : Word) (b : Bool) : (s.setResp w b).txLen = s.txLen := rfl
@[simp] theorem State.setResp_txIdx (s : State) (w : Word) (b : Bool) : (s.setResp w b).txIdx = s.txIdx := rfl
@[simp] theorem State.setResp_queue (s : State) (w : Word) (b : Bool) : (s.setResp w b).queue = s.queue := rfl
@[simp] theorem State.setResp_resp (s : State) (w : Word) (b : Bool) : (s.setResp w b).resp = w := rfl
@[simp] theorem State.setResp_respValid (s : State) (w : Word) (b : Bool) : (s.setResp w b).respValid = b := rfl
@[simp] theorem State.setResp_disablePending (s : State) (w : Word) (b : Bool) : (s.setResp w b).disablePending = s.disablePending := rfl
@[simp] theorem State.setResp_dispWord (s : State) (w : Word) (b : Bool) : (s.setResp w b).dispWord = s.dispWord := rfl
@[simp] theorem State.setResp_wave (s : State) (w : Word) (b : Bool) : (s.setResp w b).wave = s.wave := rfl
@[simp] theorem State.setResp_freq (s : State) (w : Word) (b : Bool) : (s.setResp w b).freq = s.freq := rfl
@[simp] theorem State.setResp_strSplash (s : State) (w : Word) (b : Bool) : (s.setResp w b).strSplash = s.strSplash := rfl
@[simp] theorem State.setResp_strCompanion (s : State) (w : Word) (b : Bool) : (s.setResp w b).strCompanion = s.strCompanion := rfl
@[simp] theorem State.setResp_chgSplash (s : State) (w : Word) (b : Bool) : (s.setResp w b).chgSplash = s.chgSplash := rfl
@[simp] theorem State.setResp_chgCompanion (s : State) (w : Word) (b : Bool) : (s.setResp w b).chgCompanion = s.chgCompanion := rfl
@[simp] theorem State.setResp_events (s : State) (w : Word) (b : Bool) : (s.setResp w b).events = s.events := rfl
@[simp] theorem State.setResp_fault (s : State) (w : Word) (b : Bool) : (s.setResp w b).fault = s.fault := rfl
@[simp] theorem State.setResp_draws (s : State) (w : Word) (b : Bool) : (s.setResp w b).draws = s.draws := rfl
@[simp] theorem State.setResp_answers (s : State) (w : Word) (b : Bool) : (s.setResp w b).answers = s.answers := rfl
@[simp] theorem State.setResp_turns (s : State) (w : Word) (b : Bool) : (s.setResp w b).turns = s.turns := rfl
@[simp] theorem State.setResp_busInput (s : State) (w : Word) (b : Bool) : (s.setResp w b).busInput = s.busInput := rfl
@[simp] theorem State.setResp_coreInput (s : State) (w : Word) (b : Bool) : (s.setResp w b).coreInput = s.coreInput := rfl

/-! ### `setPower` -/

@[simp] theorem State.setPower_cfg (s : State) (a b : Bool) : (s.setPower a b).cfg = s.cfg := rfl
@[simp] theorem State.setPower_armed (s : State) (a b : Bool) : (s.setPower a b).armed = a := rfl
@[simp] theorem State.setPower_slaveAddr (s : State) (a b : Bool) : (s.setPower a b).slaveAddr = s.slaveAddr := rfl
@[simp] theorem State.setPower_busState (s : State) (a b : Bool) : (s.setPower a b).busState = s.busState := rfl
@[simp] theorem State.setPower_rxBuf (s : State) (a b : Bool) : (s.setPower a b).rxBuf = s.rxBuf := rfl
@[simp] theorem State.setPower_rxLen (s : State) (a b : Bool) : (s.setPower a b).rxLen = s.rxLen := rfl
@[simp] theorem State.setPower_txBuf (s : State) (a b : Bool) : (s.setPower a b).txBuf = s.txBuf := rfl
@[simp] theorem State.setPower_txLen (s : State) (a b : Bool) : (s.setPower a b).txLen = s.txLen := rfl
@[simp] theorem State.setPower_txIdx (s : State) (a b : Bool) : (s.setPower a b).txIdx = s.txIdx := rfl
@[simp] theorem State.setPower_queue (s : State) (a b : Bool) : (s.setPower a b).queue = s.queue := rfl
@[simp] theorem State.setPower_resp (s : State) (a b : Bool) : (s.setPower a b).resp = s.resp := rfl
@[simp] theorem State.setPower_respValid (s : State) (a b : Bool) : (s.setPower a b).respValid = s.respValid := rfl
@[simp] theorem State.setPower_disablePending (s : State) (a b : Bool) : (s.setPower a b).disablePending = b := rfl
@[simp] theorem State.setPower_dispWord (s : State) (a b : Bool) : (s.setPower a b).dispWord = s.dispWord := rfl
@[simp] theorem State.setPower_wave (s : State) (a b : Bool) : (s.setPower a b).wave = s.wave := rfl
@[simp] theorem State.setPower_freq (s : State) (a b : Bool) : (s.setPower a b).freq = s.freq := rfl
@[simp] theorem State.setPower_strSplash (s : State) (a b : Bool) : (s.setPower a b).strSplash = s.strSplash := rfl
@[simp] theorem State.setPower_strCompanion (s : State) (a b : Bool) : (s.setPower a b).strCompanion = s.strCompanion := rfl
@[simp] theorem State.setPower_chgSplash (s : State) (a b : Bool) : (s.setPower a b).chgSplash = s.chgSplash := rfl
@[simp] theorem State.setPower_chgCompanion (s : State) (a b : Bool) : (s.setPower a b).chgCompanion = s.chgCompanion := rfl
@[simp] theorem State.setPower_events (s : State) (a b : Bool) : (s.setPower a b).events = s.events := rfl
@[simp] theorem State.setPower_fault (s : State) (a b : Bool) : (s.setPower a b).fault = s.fault := rfl
@[simp] theorem State.setPower_draws (s : State) (a b : Bool) : (s.setPower a b).draws = s.draws := rfl
@[simp] theorem State.setPower_answers (s : State) (a b : Bool) : (s.setPower a b).answers = s.answers := rfl
@[simp] theorem State.setPower_turns (s : State) (a b : Bool) : (s.setPower a b).turns = s.turns := rfl
@[simp] theorem State.setPower_busInput (s : State) (a b : Bool) : (s.setPower a b).busInput = s.busInput := rfl
@[simp] theorem State.setPower_coreInput (s : State) (a b : Bool) : (s.setPower a b).coreInput = s.coreInput := rfl

/-! ### `setWaveType` -/

@[simp] theorem setWaveType_cfg (s : State) (t : Wave) : (setWaveType t s).cfg = s.cfg := rfl
@[simp] theorem setWaveType_armed (s : State) (t : Wave) : (setWaveType t s).armed = s.armed := rfl
@[simp] theorem setWaveType_slaveAddr (s : State) (t : Wave) : (setWaveType t s).slaveAddr = s.slaveAddr := rfl
@[simp] theorem setWaveType_busState (s : State) (t : Wave) : (setWaveType t s).busState = s.busState := rfl
@[simp] theorem setWaveType_rxBuf (s : State) (t : Wave) : (setWaveType t s).rxBuf = s.rxBuf := rfl
@[simp] theorem setWaveType_rxLen (s : State) (t : Wave) : (setWaveType t s).rxLen = s.rxLen := rfl
@[simp] theorem setWaveType_txBuf (s : State) (t : Wave) : (setWaveType t s).txBuf = s.txBuf := rfl
@[simp] theorem setWaveType_txLen (s : State) (t : Wave) : (setWaveType t s).txLen = s.txLen := rfl
@[simp] theorem setWaveType_txIdx (s : State) (t : Wave) : (setWaveType t s).txIdx = s.txIdx := rfl
@[simp] theorem setWaveType_queue (s : State) (t : Wave) : (setWaveType t s).queue = s.queue := rfl
@[simp] theorem setWaveType_resp (s : State) (t : Wave) : (setWaveType t s).resp = s.resp := rfl
@[simp] theorem setWaveType_respValid (s : State) (t : Wave) : (setWaveType t s).respValid = s.respValid := rfl
@[simp] theorem setWaveType_disablePending (s : State) (t : Wave) : (setWaveType t s).disablePending = s.disablePending := rfl
@[simp] theorem setWaveType_dispWord (s : State) (t : Wave) : (setWaveType t s).dispWord = s.dispWord := rfl
@[simp] theorem setWaveType_wave (s : State) (t : Wave) : (setWaveType t s).wave = t := rfl
@[simp] theorem setWaveType_freq (s : State) (t : Wave) : (setWaveType t s).freq = s.freq := rfl
@[simp] theorem setWaveType_strSplash (s : State) (t : Wave) : (setWaveType t s).strSplash = s.strSplash := rfl
@[simp] theorem setWaveType_strCompanion (s : State) (t : Wave) : (setWaveType t s).strCompanion = s.strCompanion := rfl
@[simp] theorem setWaveType_chgSplash (s : State) (t : Wave) : (setWaveType t s).chgSplash = s.chgSplash := rfl
@[simp] theorem setWaveType_chgCompanion (s : State) (t : Wave) : (setWaveType t s).chgCompanion = s.chgCompanion := rfl
@[simp] theorem setWaveType_events (s : State) (t : Wave) : (setWaveType t s).events = s.events := rfl
@[simp] theorem setWaveType_fault (s : State) (t : Wave) : (setWaveType t s).fault = s.fault := rfl
@[simp] theorem setWaveType_draws (s : State) (t : Wave) : (setWaveType t s).draws = s.draws := rfl
@[simp] theorem setWaveType_answers (s : State) (t : Wave) : (setWaveType t s).answers = s.answers := rfl
@[simp] theorem setWaveType_turns (s : State) (t : Wave) : (setWaveType t s).turns = s.turns := rfl
@[simp] theorem setWaveType_busInput (s : State) (t : Wave) : (setWaveType t s).busInput = s.busInput := rfl
@[simp] theorem setWaveType_coreInput (s : State) (t : Wave) : (setWaveType t s).coreInput = s.coreInput := rfl

/-! ### `setFrequency` -/

@[simp] theorem setFrequency_cfg (s : State) (f : BitVec 64) : (setFrequency f s).cfg = s.cfg := rfl
@[simp] theorem setFrequency_armed (s : State) (f : BitVec 64) : (setFrequency f s).armed = s.armed := rfl
@[simp] theorem setFrequency_slaveAddr (s : State) (f : BitVec 64) : (setFrequency f s).slaveAddr = s.slaveAddr := rfl
@[simp] theorem setFrequency_busState (s : State) (f : BitVec 64) : (setFrequency f s).busState = s.busState := rfl
@[simp] theorem setFrequency_rxBuf (s : State) (f : BitVec 64) : (setFrequency f s).rxBuf = s.rxBuf := rfl
@[simp] theorem setFrequency_rxLen (s : State) (f : BitVec 64) : (setFrequency f s).rxLen = s.rxLen := rfl
@[simp] theorem setFrequency_txBuf (s : State) (f : BitVec 64) : (setFrequency f s).txBuf = s.txBuf := rfl
@[simp] theorem setFrequency_txLen (s : State) (f : BitVec 64) : (setFrequency f s).txLen = s.txLen := rfl
@[simp] theorem setFrequency_txIdx (s : State) (f : BitVec 64) : (setFrequency f s).txIdx = s.txIdx := rfl
@[simp] theorem setFrequency_queue (s : State) (f : BitVec 64) : (setFrequency f s).queue = s.queue := rfl
@[simp] theorem setFrequency_resp (s : State) (f : BitVec 64) : (setFrequency f s).resp = s.resp := rfl
@[simp] theorem setFrequency_respValid (s : State) (f : BitVec 64) : (setFrequency f s).respValid = s.respValid := rfl
@[simp] theorem setFrequency_disablePending (s : State) (f : BitVec 64) : (setFrequency f s).disablePending = s.disablePending := rfl
@[simp] theorem setFrequency_dispWord (s : State) (f : BitVec 64) : (setFrequency f s).dispWord = s.dispWord := rfl
@[simp] theorem setFrequency_wave (s : State) (f : BitVec 64) : (setFrequency f s).wave = s.wave := rfl
@[simp] theorem setFrequency_freq (s : State) (f : BitVec 64) : (setFrequency f s).freq = f := rfl
@[simp] theorem setFrequency_strSplash (s : State) (f : BitVec 64) : (setFrequency f s).strSplash = s.strSplash := rfl
@[simp] theorem setFrequency_strCompanion (s : State) (f : BitVec 64) : (setFrequency f s).strCompanion = s.strCompanion := rfl
@[simp] theorem setFrequency_chgSplash (s : State) (f : BitVec 64) : (setFrequency f s).chgSplash = s.chgSplash := rfl
@[simp] theorem setFrequency_chgCompanion (s : State) (f : BitVec 64) : (setFrequency f s).chgCompanion = s.chgCompanion := rfl
@[simp] theorem setFrequency_events (s : State) (f : BitVec 64) : (setFrequency f s).events = s.events := rfl
@[simp] theorem setFrequency_fault (s : State) (f : BitVec 64) : (setFrequency f s).fault = s.fault := rfl
@[simp] theorem setFrequency_draws (s : State) (f : BitVec 64) : (setFrequency f s).draws = s.draws := rfl
@[simp] theorem setFrequency_answers (s : State) (f : BitVec 64) : (setFrequency f s).answers = s.answers := rfl
@[simp] theorem setFrequency_turns (s : State) (f : BitVec 64) : (setFrequency f s).turns = s.turns := rfl
@[simp] theorem setFrequency_busInput (s : State) (f : BitVec 64) : (setFrequency f s).busInput = s.busInput := rfl
@[simp] theorem setFrequency_coreInput (s : State) (f : BitVec 64) : (setFrequency f s).coreInput = s.coreInput := rfl

/-! ### `setStr` -/

@[simp] theorem State.setStr_cfg (s : State) (d : DisplayString) (v : Vector Byte 17) : (s.setStr d v).cfg = s.cfg := by cases d <;> rfl
@[simp] theorem State.setStr_armed (s : State) (d : DisplayString) (v : Vector Byte 17) : (s.setStr d v).armed = s.armed := by cases d <;> rfl
@[simp] theorem State.setStr_slaveAddr (s : State) (d : DisplayString) (v : Vector Byte 17) : (s.setStr d v).slaveAddr = s.slaveAddr := by cases d <;> rfl
@[simp] theorem State.setStr_busState (s : State) (d : DisplayString) (v : Vector Byte 17) : (s.setStr d v).busState = s.busState := by cases d <;> rfl
@[simp] theorem State.setStr_rxBuf (s : State) (d : DisplayString) (v : Vector Byte 17) : (s.setStr d v).rxBuf = s.rxBuf := by cases d <;> rfl
@[simp] theorem State.setStr_rxLen (s : State) (d : DisplayString) (v : Vector Byte 17) : (s.setStr d v).rxLen = s.rxLen := by cases d <;> rfl
@[simp] theorem State.setStr_txBuf (s : State) (d : DisplayString) (v : Vector Byte 17) : (s.setStr d v).txBuf = s.txBuf := by cases d <;> rfl
@[simp] theorem State.setStr_txLen (s : State) (d : DisplayString) (v : Vector Byte 17) : (s.setStr d v).txLen = s.txLen := by cases d <;> rfl
@[simp] theorem State.setStr_txIdx (s : State) (d : DisplayString) (v : Vector Byte 17) : (s.setStr d v).txIdx = s.txIdx := by cases d <;> rfl
@[simp] theorem State.setStr_queue (s : State) (d : DisplayString) (v : Vector Byte 17) : (s.setStr d v).queue = s.queue := by cases d <;> rfl
@[simp] theorem State.setStr_resp (s : State) (d : DisplayString) (v : Vector Byte 17) : (s.setStr d v).resp = s.resp := by cases d <;> rfl
@[simp] theorem State.setStr_respValid (s : State) (d : DisplayString) (v : Vector Byte 17) : (s.setStr d v).respValid = s.respValid := by cases d <;> rfl
@[simp] theorem State.setStr_disablePending (s : State) (d : DisplayString) (v : Vector Byte 17) : (s.setStr d v).disablePending = s.disablePending := by cases d <;> rfl
@[simp] theorem State.setStr_dispWord (s : State) (d : DisplayString) (v : Vector Byte 17) : (s.setStr d v).dispWord = s.dispWord := by cases d <;> rfl
@[simp] theorem State.setStr_wave (s : State) (d : DisplayString) (v : Vector Byte 17) : (s.setStr d v).wave = s.wave := by cases d <;> rfl
@[simp] theorem State.setStr_freq (s : State) (d : DisplayString) (v : Vector Byte 17) : (s.setStr d v).freq = s.freq := by cases d <;> rfl
@[simp] theorem State.setStr_chgSplash (s : State) (d : DisplayString) (v : Vector Byte 17) : (s.setStr d v).chgSplash = s.chgSplash := by cases d <;> rfl
@[simp] theorem State.setStr_chgCompanion (s : State) (d : DisplayString) (v : Vector Byte 17) : (s.setStr d v).chgCompanion = s.chgCompanion := by cases d <;> rfl
@[simp] theorem State.setStr_events (s : State) (d : DisplayString) (v : Vector Byte 17) : (s.setStr d v).events = s.events := by cases d <;> rfl
@[simp] theorem State.setStr_fault (s : State) (d : DisplayString) (v : Vector Byte 17) : (s.setStr d v).fault = s.fault := by cases d <;> rfl
@[simp] theorem State.setStr_draws (s : State) (d : DisplayString) (v : Vector Byte 17) : (s.setStr d v).draws = s.draws := by cases d <;> rfl
@[simp] theorem State.setStr_answers (s : State) (d : DisplayString) (v : Vector Byte 17) : (s.setStr d v).answers = s.answers := by cases d <;> rfl
@[simp] theorem State.setStr_turns (s : State) (d : DisplayString) (v : Vector Byte 17) : (s.setStr d v).turns = s.turns := by cases d <;> rfl
@[simp] theorem State.setStr_busInput (s : State) (d : DisplayString) (v : Vector Byte 17) : (s.setStr d v).busInput = s.busInput := by cases d <;> rfl
@[simp] theorem State.setStr_coreInput (s : State) (d : DisplayString) (v : Vector Byte 17) : (s.setStr d v).coreInput = s.coreInput := by cases d <;> rfl

/-! ### `setChg` -/

@[simp] theorem State.setChg_cfg (s : State) (d : DisplayString) (b : Bool) : (s.setChg d b).cfg = s.cfg := by cases d <;> rfl
@[simp] theorem State.setChg_armed (s : State) (d : DisplayString) (b : Bool) : (s.setChg d b).armed = s.armed := by cases d <;> rfl
@[simp] theorem State.setChg_slaveAddr (s : State) (d : DisplayString) (b : Bool) : (s.setChg d b).slaveAddr = s.slaveAddr := by cases d <;> rfl
@[simp] theorem State.setChg_busState (s : State) (d : DisplayString) (b : Bool) : (s.setChg d b).busState = s.busState := by cases d <;> rfl
@[simp] theorem State.setChg_rxBuf (s : State) (d : DisplayString) (b : Bool) : (s.setChg d b).rxBuf = s.rxBuf := by cases d <;> rfl
@[simp] theorem State.setChg_rxLen (s : State) (d : DisplayString) (b : Bool) : (s.setChg d b).rxLen = s.rxLen := by cases d <;> rfl
@[simp] theorem State.setChg_txBuf (s : State) (d : DisplayString) (b : Bool) : (s.setChg d b).txBuf = s.txBuf := by cases d <;> rfl
@[simp] theorem State.setChg_txLen (s : State) (d : DisplayString) (b : Bool) : (s.setChg d b).txLen = s.txLen := by cases d <;> rfl
@[simp] theorem State.setChg_txIdx (s : State) (d : DisplayString) (b : Bool) : (s.setChg d b).txIdx = s.txIdx := by cases d <;> rfl
@[simp] theorem State.setChg_queue (s : State) (d : DisplayString) (b : Bool) : (s.setChg d b).queue = s.queue := by cases d <;> rfl
@[simp] theorem State.setChg_resp (s : State) (d : DisplayString) (b : Bool) : (s.setChg d b).resp = s.resp := by cases d <;> rfl
@[simp] theorem State.setChg_respValid (s : State) (d : DisplayString) (b : Bool) : (s.setChg d b).respValid = s.respValid := by cases d <;> rfl
@[simp] theorem State.setChg_disablePending (s : State) (d : DisplayString) (b : Bool) : (s.setChg d b).disablePending = s.disablePending := by cases d <;> rfl
@[simp] theorem State.setChg_dispWord (s : State) (d : DisplayString) (b : Bool) : (s.setChg d b).dispWord = s.dispWord := by cases d <;> rfl
@[simp] theorem State.setChg_wave (s : State) (d : DisplayString) (b : Bool) : (s.setChg d b).wave = s.wave := by cases d <;> rfl
@[simp] theorem State.setChg_freq (s : State) (d : DisplayString) (b : Bool) : (s.setChg d b).freq = s.freq := by cases d <;> rfl
@[simp] theorem State.setChg_strSplash (s : State) (d : DisplayString) (b : Bool) : (s.setChg d b).strSplash = s.strSplash := by cases d <;> rfl
@[simp] theorem State.setChg_strCompanion (s : State) (d : DisplayString) (b : Bool) : (s.setChg d b).strCompanion = s.strCompanion := by cases d <;> rfl
@[simp] theorem State.setChg_events (s : State) (d : DisplayString) (b : Bool) : (s.setChg d b).events = s.events := by cases d <;> rfl
@[simp] theorem State.setChg_fault (s : State) (d : DisplayString) (b : Bool) : (s.setChg d b).fault = s.fault := by cases d <;> rfl
@[simp] theorem State.setChg_draws (s : State) (d : DisplayString) (b : Bool) : (s.setChg d b).draws = s.draws := by cases d <;> rfl
@[simp] theorem State.setChg_answers (s : State) (d : DisplayString) (b : Bool) : (s.setChg d b).answers = s.answers := by cases d <;> rfl
@[simp] theorem State.setChg_turns (s : State) (d : DisplayString) (b : Bool) : (s.setChg d b).turns = s.turns := by cases d <;> rfl
@[simp] theorem State.setChg_busInput (s : State) (d : DisplayString) (b : Bool) : (s.setChg d b).busInput = s.busInput := by cases d <;> rfl
@[simp] theorem State.setChg_coreInput (s : State) (d : DisplayString) (b : Bool) : (s.setChg d b).coreInput = s.coreInput := by cases d <;> rfl

/-! ### The two strings and their flags -/

@[simp] theorem State.str_setStr (s : State) (d : DisplayString) (v : Vector Byte 17) : (s.setStr d v).str d = v := by
  cases d <;> rfl

theorem State.str_setStr_ne (s : State) (d e : DisplayString) (v : Vector Byte 17) (h : e ≠ d) :
    (s.setStr d v).str e = s.str e := by
  cases d <;> cases e <;> first | rfl | exact absurd rfl h

@[simp] theorem State.str_setChg (s : State) (d e : DisplayString) (b : Bool) : (s.setChg d b).str e = s.str e := by
  cases d <;> cases e <;> rfl

@[simp] theorem State.chg_setChg (s : State) (d : DisplayString) (b : Bool) : (s.setChg d b).chg d = b := by
  cases d <;> rfl

theorem State.chg_setChg_ne (s : State) (d e : DisplayString) (b : Bool) (h : e ≠ d) :
    (s.setChg d b).chg e = s.chg e := by
  cases d <;> cases e <;> first | rfl | exact absurd rfl h

@[simp] theorem State.setStr_setStr (s : State) (d : DisplayString) (v w : Vector Byte 17) :
    (s.setStr d v).setStr d w = s.setStr d w := by
  cases d <;> rfl

@[simp] theorem State.setStr_str (s : State) (d : DisplayString) : s.setStr d (s.str d) = s := by
  cases d <;> rfl

@[simp] theorem State.setChg_setChg (s : State) (d : DisplayString) (b c : Bool) :
    (s.setChg d b).setChg d c = s.setChg d c := by
  cases d <;> rfl

theorem State.setStr_setChg_comm (s : State) (d : DisplayString) (v : Vector Byte 17) (b : Bool) :
    (s.setChg d b).setStr d v = (s.setStr d v).setChg d b := by
  cases d <;> rfl

end Sys2Proof.Machine
end

