-- ==== Sys2Proof/Laws/Ops.lean ====
section
/-! SUPPORT. For each shared operation, once, everything it can do. -/

namespace Sys2Proof.Machine

/-! ### Ends of steps -/

/-- A step that did its work goes on exactly when `FAULT` is not set. -/
theorem settle_eq_next_iff (s t : State) : settle s = .next t ↔ s.fault = false ∧ t = s := by
  unfold settle
  cases h : s.fault <;> simp [eq_comm]

theorem settle_of_noFault {s : State} (h : s.fault = false) : settle s = .next s :=
  (settle_eq_next_iff s s).2 ⟨h, rfl⟩

/-! ### The FIFO -/

theorem enqueue_room {s : State} {w : Word} (h : s.queue.length < s.cfg.qCap) :
    enqueue w s = { s with queue := s.queue ++ [w] } := by
  simp [enqueue, h]

theorem enqueue_full {s : State} {w : Word} (h : s.cfg.qCap ≤ s.queue.length) :
    enqueue w s = s.log .queueSaturated := by
  simp [enqueue, Nat.not_lt.2 h]

/-- `Enqueue` changes nothing but `QUEUE`, to which it appends, and `EVENTS`. -/
theorem enqueue_cases (w : Word) (s : State) :
    (s.queue.length < s.cfg.qCap ∧ enqueue w s = { s with queue := s.queue ++ [w] }) ∨
      (s.cfg.qCap ≤ s.queue.length ∧ enqueue w s = { s with events := s.events ++ [.queueSaturated] }) := by
  by_cases h : s.queue.length < s.cfg.qCap
  · exact .inl ⟨h, enqueue_room h⟩
  · exact .inr ⟨Nat.le_of_not_lt h, enqueue_full (Nat.le_of_not_lt h)⟩

/-- A run of `Enqueue`s appends some of the words to `QUEUE`, logs some records, and does nothing else. -/
theorem enqueueAll_cases (ws : List Word) (s : State) :
    ∃ vs es, enqueueAll ws s = { s with queue := s.queue ++ vs, events := s.events ++ es } ∧
      (s.queue.length ≤ s.cfg.qCap → s.queue.length + vs.length ≤ s.cfg.qCap) := by
  induction ws generalizing s with
  | nil => exact ⟨[], [], by simp [enqueueAll]⟩
  | cons w ws ih =>
    obtain ⟨vs, es, h, hb⟩ := ih (enqueue w s)
    have hc : enqueueAll (w :: ws) s = enqueueAll ws (enqueue w s) := rfl
    rcases enqueue_cases w s with ⟨hr, he⟩ | ⟨hf, he⟩
    · refine ⟨w :: vs, es, ?_, ?_⟩
      · rw [hc, h, he]; simp
      · intro _
        have := hb (by rw [he]; simp; omega)
        rw [he] at this
        simp at this ⊢
        omega
    · refine ⟨vs, .queueSaturated :: es, ?_, ?_⟩
      · rw [hc, h, he]; simp
      · intro hq
        have := hb (by rw [he]; exact hq)
        rw [he] at this
        exact this

theorem popCommand_cons {s : State} {w : Word} {rest : List Word} (h : s.queue = w :: rest) :
    popCommand s = (some w, { s with queue := rest }) := by
  simp [popCommand, dequeue, h]

theorem popCommand_nil {s : State} (h : s.queue = []) : popCommand s = (none, s.raiseFault) := by
  simp [popCommand, dequeue, h]

/-- The pop stage moves the oldest word into `DISP_WORD`, or does nothing when no word is queued; it never faults
(R200, R330). -/
theorem popStage_cases (s : State) :
    (∃ w rest, s.queue = w :: rest ∧ popStage s = { s with queue := rest, dispWord := some w }) ∨
      (s.queue = [] ∧ popStage s = s) := by
  cases h : s.queue with
  | nil => exact .inr ⟨rfl, by simp [popStage, hasPendingCommand, h]⟩
  | cons w rest => exact .inl ⟨w, rest, rfl, by simp [popStage, hasPendingCommand, h, popCommand_cons h]⟩

/-- The port operation `popCommand` removes the oldest word and returns it, or sets `FAULT` when no word is queued (R174). -/
theorem portPop_cases (s : State) :
    (∃ w rest, s.queue = w :: rest ∧ portPop s = ({ s with queue := rest }).answer (.popped w)) ∨
      (s.queue = [] ∧ portPop s = s.raiseFault) := by
  cases h : s.queue with
  | nil => exact .inr ⟨rfl, by simp [portPop, popCommand_nil h]⟩
  | cons w rest => exact .inl ⟨w, rest, rfl, by simp [portPop, popCommand_cons h]⟩

/-- The completion step of `disable` clears `DISABLE_PENDING` in `Idle`, and holds otherwise (R172). -/
theorem disableComplete_cases (s : State) :
    (s.busState = .idle ∧ disableComplete s = { s with disablePending := false }) ∨
      (s.busState ≠ .idle ∧ disableComplete s = s) := by
  cases h : s.busState <;> simp [disableComplete, h, State.setPower]

/-! ### The transmit capture -/

/-- The capture with a response available. -/
theorem capture_valid {s : State} (h : s.respValid = true) :
    capture s = { s with txBuf := responseBytes s.resp, txLen := 4, txIdx := 0 } := by
  simp [capture, h]

/-- The capture with none: the single byte 0x00. -/
theorem capture_invalid {s : State} (h : s.respValid = false) :
    capture s = { s with txBuf := s.txBuf.set 0 0, txLen := 1, txIdx := 0 } := by
  simp [capture, h]

/-- The capture, in either case: it writes the transmit scratch alone, and rewinds it. -/
theorem capture_cases (s : State) :
    ∃ b n, capture s = { s with txBuf := b, txLen := n, txIdx := 0 } ∧ n ≤ txCap := by
  by_cases h : s.respValid = true
  · exact ⟨_, 4, capture_valid h, by decide⟩
  · exact ⟨_, 1, capture_invalid (by simpa using h), by decide⟩

/-! ### Byte orders -/

theorem wordsOf_length (bs : List Byte) : (wordsOf bs).length = bs.length / 4 := by
  induction bs using wordsOf.induct with
  | case1 b0 b1 b2 b3 rest ih => simp [wordsOf, ih]; omega
  | case2 bs h =>
    match bs, h with
    | [], _ => simp [wordsOf]
    | [_], _ => simp [wordsOf]
    | [_, _], _ => simp [wordsOf]
    | [_, _, _], _ => simp [wordsOf]
    | b0 :: b1 :: b2 :: b3 :: rest, h => exact absurd rfl (h b0 b1 b2 b3 rest)

/-! ### The chunk unpacker -/

theorem unpackChunk_accepted {d : DisplayString} {k : BitVec 3} {a b c : Char7} {s : State} (h : k.toNat ≤ 4) :
    unpackChunk d k a b c s = (writeChunk d (chunkOffset k) a b c s).setChg d true := by
  have : chunkFits k = true := by simp [chunkFits, chunkOffset]; omega
  simp [unpackChunk, this]

theorem unpackChunk_rejected {d : DisplayString} {k : BitVec 3} {a b c : Char7} {s : State} (h : 5 ≤ k.toNat) :
    unpackChunk d k a b c s = s.log .invalidStringSlot := by
  have : chunkFits k = false := by simp [chunkFits, chunkOffset]; omega
  simp [unpackChunk, this]

/-- Writing a chunk writes its string and nothing else. -/
theorem writeChunk_eq (d : DisplayString) (off : Nat) (a b c : Char7) (s : State) :
    writeChunk d off a b c s = s.setStr d
      (((((s.str d).setIfInBounds (off + 2) (charByte c)).setIfInBounds (off + 1) (charByte b)).setIfInBounds off
        (charByte a)).setIfInBounds (off + 3) 0) := by
  simp [writeChunk, bufWrite]

end Sys2Proof.Machine
end

