-- ==== Sys2Proof/Laws/PerInstr.lean ====
section
/-! SUPPORT. A statement for every command, one lemma a constructor: an encoded command has its row's match under the
table's mask (R119). -/

namespace Sys2Proof.Laws.EncodedRow

/-- The encoded command is a word of its row of the opcode map (R119). -/
def Statement (i : Instr) : Prop := encode i &&& 0xE0000000 = rowMatch i

/-- Masking the tag's three bits of a command word leaves the tag alone. -/
theorem mask_commandWord (tag : BitVec 3) (payload : BitVec 29) :
    commandWord tag payload &&& 0xE0000000 = tag.setWidth 32 <<< 29 := by
  ext i hi
  simp only [commandWord, BitVec.getElem_and, BitVec.getElem_or, BitVec.getElem_shiftLeft,
    BitVec.getElem_setWidth]
  interval_cases i <;> simp

theorem setwave (hi lo : BitVec 2) : Statement (.setwave hi lo) :=
  (mask_commandWord _ _).trans rfl
theorem setfreq (reg : BitVec 29) : Statement (.setfreq reg) :=
  (mask_commandWord _ _).trans rfl
theorem ign2 : Statement .ign2 :=
  (mask_commandWord _ _).trans rfl
theorem ign3 : Statement .ign3 :=
  (mask_commandWord _ _).trans rfl
theorem ign4 : Statement .ign4 :=
  (mask_commandWord _ _).trans rfl
theorem query : Statement .query :=
  (mask_commandWord _ _).trans rfl
theorem ign6 : Statement .ign6 :=
  (mask_commandWord _ _).trans rfl
theorem strchunk (target : DisplayString) (slot : BitVec 3) (cA cB cC : Char7) :
    Statement (.strchunk target slot cA cB cC) :=
  (mask_commandWord _ _).trans rfl

end Sys2Proof.Laws.EncodedRow
end

