-- ==== Sys2Proof/Laws/Turns.lean ====
section
/-! SUPPORT. What a step can do, once: every command completes, every bus event leaves a known frame, and a step that
answers a next state is one of five kinds. -/

namespace Sys2Proof.Machine

/-- Every command completes in every state: `exec` never faults and never refuses (R115, R290). -/
theorem exec_completes (i : Instr) (s : State) : ∃ t, exec i s = .next t := by
  cases i <;> exact ⟨_, rfl⟩

/-- No command sets `FAULT`. -/
theorem exec_keeps_fault {i : Instr} {s t : State} (h : exec i s = .next t) : t.fault = s.fault := by
  have key : ∀ u, exec i s = .next u → u.fault = s.fault := by
    cases i with
    | strchunk d k a b c =>
      intro u hu
      have : u = unpackChunk d k a b c s := by simpa [exec, execStrchunk, eq_comm] using hu
      subst this
      unfold unpackChunk
      split <;> simp [writeChunk_eq]
    | _ =>
      intro u hu
      simp [exec, execSetwave, execSetfreq, execQuery, execIgn2, execIgn3, execIgn4, execIgn6, ignoreWord,
        pushResponse] at hu
      subst hu
      simp
  exact key t h

/-- `Term` writes only `QUEUE` (appending), `EVENTS`, `RXLEN` and `BUS_STATE`, and ends in `Idle`. -/
theorem term_cases (s : State) :
    ∃ vs es n, term s = { s with queue := s.queue ++ vs, events := s.events ++ es, rxLen := n, busState := .idle } ∧
      n ≤ s.rxLen ∧ (s.queue.length ≤ s.cfg.qCap → s.queue.length + vs.length ≤ s.cfg.qCap) := by
  unfold term
  cases hb : s.busState with
  | idle =>
    refine ⟨[], [], s.rxLen, ?_, Nat.le_refl _, fun h => by simpa using h⟩
    simp only [List.append_nil]
    exact hb ▸ rfl
  | addressedAsReceiver =>
    simp only [termReceive]
    split
    · obtain ⟨vs, es, he, hq⟩ := enqueueAll_cases (wordsOf (s.rxBuf.take s.rxLen)) s
      exact ⟨vs, es, 0, by rw [he], Nat.zero_le _, hq⟩
    · exact ⟨[], [.malformedTransaction], 0, by simp [State.log], Nat.zero_le _, fun h => by simpa using h⟩
  | addressedAsTransmitter => exact ⟨[], [], s.rxLen, by simp, Nat.le_refl _, fun h => by simpa using h⟩

/-- A bus event writes only the bus-side registers, appends to `QUEUE`, `EVENTS` and `answers`, and moves `draws`. -/
theorem busEvent_frame (e : BusEvent) (s : State) :
    ∃ b rb rl tb tl ti vs es n as, busEvent e s = { s with
      busState := b, rxBuf := rb, rxLen := rl, txBuf := tb, txLen := tl, txIdx := ti, queue := s.queue ++ vs,
      events := s.events ++ es, draws := n, answers := s.answers ++ as } := by
  obtain ⟨vs, es, n, ht, -, -⟩ := term_cases s
  cases e with
  | addrW a =>
    simp only [busEvent, busAddrW, startReceive, ht]
    split <;> exact ⟨_, _, _, _, _, _, vs, es, _, _, rfl⟩
  | addrR a =>
    obtain ⟨b, m, hc, -⟩ := capture_cases (term s)
    simp only [busEvent, busAddrR, startTransmit]
    rw [hc, ht]
    split <;> exact ⟨_, _, _, _, _, _, vs, es, _, _, rfl⟩
  | rxByte b =>
    simp only [busEvent, busRxByte]
    split
    · split
      · exact ⟨_, _, _, _, _, _, [], [], _, [_], by rw [List.append_nil, List.append_nil]; rfl⟩
      · exact ⟨_, _, _, _, _, _, [], [_], _, [_], by rw [List.append_nil]; rfl⟩
    · exact ⟨_, _, _, _, _, _, [], [], _, [_], by rw [List.append_nil, List.append_nil]; rfl⟩
    · exact ⟨_, _, _, _, _, _, [], [], _, [_], by rw [List.append_nil, List.append_nil]; rfl⟩
  | txByte m =>
    simp only [busEvent, busTxByte]
    split
    · split <;> exact ⟨_, _, _, _, _, _, [], [], _, [_], by rw [List.append_nil, List.append_nil]; rfl⟩
    · exact ⟨_, _, _, _, _, _, [], [], _, [_], by rw [List.append_nil, List.append_nil]; rfl⟩
    · exact ⟨_, _, _, _, _, _, [], [], _, [_], by rw [List.append_nil, List.append_nil]; rfl⟩
  | term => exact ⟨_, _, _, _, _, _, vs, es, _, [], by rw [List.append_nil]; exact ht⟩
  | busErr => exact ⟨_, _, _, _, _, _, [], [_], _, [], by rw [List.append_nil, List.append_nil]; rfl⟩

/-- A step that answers a next state passed both guards. -/
theorem step_next_guards {s t : State} (h : step s = .next t) :
    s.cfg.valid = true ∧ s.fault = false ∧ takeTurn s = .next t := by
  unfold step guardedTurn at h
  by_cases hv : s.cfg.valid = true
  · rw [if_pos hv] at h
    by_cases hf : s.fault = true
    · rw [if_pos hf] at h; cases h
    · rw [if_neg hf] at h; exact ⟨hv, by simpa using hf, h⟩
  · rw [if_neg hv] at h; cases h

/-- Past both guards a step is the turn. -/
theorem step_of_guards {s : State} (hv : s.cfg.valid = true) (hf : s.fault = false) : step s = takeTurn s := by
  simp [step, guardedTurn, hv, hf]

/-- What a CORE turn that answers a next state did: an execute stage, the hold or completion of `disable`, or the free
loop's action. -/
theorem coreTurn_next_cases {u t : State} (hu : coreTurn u = .next t) :
    (∃ w v, u.dispWord = some w ∧ exec (decode w) u = .next v ∧ t = { v with dispWord := none }) ∨
      (u.dispWord = none ∧ u.disablePending = true ∧ t = disableComplete u) ∨
      (u.dispWord = none ∧ u.disablePending = false ∧ t = coreFree u ∧ t.fault = false) := by
  unfold coreTurn at hu
  cases hd : u.dispWord with
  | some w =>
    rw [hd] at hu
    obtain ⟨v, hv⟩ := exec_completes (decode w) u
    simp only [executeStage, hv] at hu
    exact .inl ⟨w, v, rfl, hv, ((settle_eq_next_iff _ _).1 hu).2⟩
  | none =>
    rw [hd] at hu
    cases hp : u.disablePending with
    | true => simp only [hp, if_true] at hu; exact .inr (.inl ⟨rfl, rfl, ((settle_eq_next_iff _ _).1 hu).2⟩)
    | false =>
      simp only [hp] at hu
      obtain ⟨hf, ht⟩ := (settle_eq_next_iff _ _).1 hu
      exact .inr (.inr ⟨rfl, rfl, ht, by rw [ht]; exact hf⟩)

/-- A step that answers a next state started from a valid, unfaulted machine and was a BUS turn or a CORE turn. -/
theorem step_next_cases {s t : State} (h : step s = .next t) :
    s.cfg.valid = true ∧ s.fault = false ∧
    ((∃ rest, s.turns = .bus :: rest ∧ busTurn { s with turns := rest } = t ∧ t.fault = false) ∨
      ∃ u, ((s.turns = [] ∧ u = s) ∨ ∃ rest, s.turns = .core :: rest ∧ u = { s with turns := rest }) ∧
        coreTurn u = .next t) := by
  obtain ⟨hv, hf, h⟩ := step_next_guards h
  refine ⟨hv, hf, ?_⟩
  unfold takeTurn at h
  rcases he : s.turns with _ | ⟨_ | _, rest⟩ <;> simp only [he] at h
  · exact .inr ⟨s, .inl ⟨rfl, rfl⟩, h⟩
  · obtain ⟨hf', ht⟩ := (settle_eq_next_iff _ _).1 h
    exact .inl ⟨rest, rfl, ht.symm, by rw [ht]; exact hf'⟩
  · exact .inr ⟨_, .inr ⟨rest, rfl, rfl⟩, h⟩

end Sys2Proof.Machine
end

