-- ==== Sys2Proof/Tests/Slice0.lean ====
section
/-! SUPPORT. The model's own tests. Expected results come from spec/95_test_vectors.md (its row or section is named in
each comment) or from the rule named. The last part shows, for every statement with hypotheses, a case that meets
them. -/

namespace Sys2Proof.Tests

open Sys2Proof.Machine

/-! ### Small states -/

/-- Armed at 0x28, bus idle (95: "Armed"). -/
def armed : State := { State.reset with armed := true, slaveAddr := 0x28 }

/-- Receiving, `n` bytes held. -/
def receiving (n : Nat) (buf : List Byte) (q : List Word) : State :=
  { armed with busState := .addressedAsReceiver, rxBuf := buf, rxLen := n, queue := q }

/-- Transmitting the four bytes of a response. -/
def sending : State :=
  { armed with
    busState := .addressedAsTransmitter, respValid := true, resp := 0x40006902
    txBuf := #v[0x02, 0x69, 0x00, 0x40], txLen := 4 }

/-- The eight bytes of vector B9. -/
def eight : List Byte := [0x20, 0xA4, 0x12, 0xB0, 0xA0, 0x00, 0x00, 0x00]

/-- A check on the next state of an outcome. -/
def nextIs (o : Host.Outcome State Fault Refusal) (p : State → Bool) : Bool :=
  match o with
  | .next s => p s
  | .fault _ => false
  | .refused _ => false

/-! ### Well-formedness: each check refuses an ill-formed term -/

theorem test_valid_reference : Config.reference.valid = true := by decide
theorem test_refuses_rxCap_zero : Config.rxCapOk { rxCap := 0, qCap := 4, mclk := 25000000 } = false := by decide
theorem test_refuses_qCap_zero : Config.qCapOk { rxCap := 8, qCap := 0, mclk := 25000000 } = false := by decide
/-- 95 L2.8: `MCLK` = 268,435 gives `D` = 0 and is refused, 268,436 is the smallest admitted. -/
theorem test_mclk_lower_bound :
    Config.mclkOk { rxCap := 8, qCap := 4, mclk := 268435 } = false ∧
    Config.mclkOk { rxCap := 8, qCap := 4, mclk := 268436 } = true := by decide
theorem test_mclk_upper_bound :
    Config.mclkOk { rxCap := 8, qCap := 4, mclk := 2 ^ 53 } = false ∧
    Config.mclkOk { rxCap := 8, qCap := 4, mclk := 2 ^ 53 - 1 } = true := by decide
/-- R118: a 16-character text is refused. -/
theorem test_text_bound :
    textFits (List.replicate 16 0x41) = false ∧ textFits (List.replicate 15 0x41) = true := by decide
/-- R115: no command is ill-formed, the highest slot included. -/
theorem test_no_illegal_command : (Instr.strchunk .companion 7 0x7F 0x7F 0x7F).wellFormed = true := by decide
/-- R261, R292: a configuration out of range is refused by the step. -/
theorem test_step_refuses_configuration :
    step { State.reset with cfg := { rxCap := 0, qCap := 4, mclk := 25000000 } } = .refused .badConfiguration := rfl

/-! ### Decoding, each word written out bit by bit from the formats of R102 to R106 -/

/-- Tag 000, `w5 w4` = 10, `w2 w1` = 01. -/
theorem test_decode_setwave : decode 0b00000000000000000000000000100010 = .setwave 0b10 0b01 := by decide
/-- R114: bits 28:6, 3 and 0 are ignored. -/
theorem test_decode_setwave_ignored : decode 0b00011111111111111111111111101011 = .setwave 0b10 0b01 := by decide
/-- Tag 001, bit 28 set and used (C10). -/
theorem test_decode_setfreq : decode 0b00110000000000000000000000000101 = .setfreq 0x10000005 := by decide
theorem test_decode_ign2 : decode 0b01000000000000000000000000000001 = .ign2 := by decide
theorem test_decode_ign3 : decode 0b01100000000000000000000000000000 = .ign3 := by decide
theorem test_decode_ign4 : decode 0b10011111111111111111111111111111 = .ign4 := by decide
theorem test_decode_query : decode 0b10111111111111111111111111111111 = .query := by decide
theorem test_decode_ign6 : decode 0b11000000000000000000000000000000 = .ign6 := by decide
/-- Tag 111, `sel` 1, slot 101, characters 0000001, 0000010, 0000100; the ignored bits 28:26 and 24 set. -/
theorem test_decode_strchunk :
    decode 0b11111111101000000100000100000100 = .strchunk .companion 0b101 0b0000001 0b0000010 0b0000100 := by decide
/-- R77, R116: anything but four bytes is rejected by name. -/
theorem test_decode_five_bytes : decodeBytes [0x20, 0, 0, 2, 0] = .error (.notOneWord 5) := by decide
/-- R72: the first byte is the most significant. -/
theorem test_decode_bytes : decodeBytes [0x20, 0xA4, 0x12, 0xB0] = .ok (.setfreq 10752688) := by decide
theorem test_decode_table_word : decodeTableWord 32 0xE0000000 = some (.strchunk .splash 0 0 0 0) := by decide
/-- 95 L2.6, the encodings of `packChunk`. -/
theorem test_encode_strchunk :
    encode (.strchunk .splash 0 0x48 0x45 0x4C) = 0xE01222CC ∧
    encode (.strchunk .companion 4 0x61 0x62 0x63) = 0xE2987163 ∧
    encode (.strchunk .companion 3 0x7F 0x7F 0x7F) = 0xE27FFFFF := by decide
/-- R117: `SETWAVE Square` is `idx << 4`. -/
theorem test_encode_setwave : encode (setWaveCommand .square) = 0x00000020 := by decide

/-! ### Commands -/

/-- 95 L2.3: `0x24` gives Square, `0x12` gives Triangle (C1). -/
theorem test_setwave :
    nextIs (exec (decode 0x24) armed) (fun s => decide (s.wave = .square)) = true ∧
    nextIs (exec (decode 0x12) armed) (fun s => decide (s.wave = .triangle)) = true := by decide
/-- 95 L2.3: `0x3E` gives None, `0x1FFFFFC1` gives Sine. -/
theorem test_setwave_edges :
    nextIs (exec (decode 0x3E) armed) (fun s => decide (s.wave = .none)) = true ∧
    nextIs (exec (decode 0x1FFFFFC1) armed) (fun s => decide (s.wave = .sine)) = true := by decide
/-- 95 L2.4. -/
theorem test_setfreq : nextIs (exec (decode 0x20A412B0) armed) (fun s => decide (s.freq = 999999984)) = true := by decide
/-- 95 L2.4: the largest word, not clamped. -/
theorem test_setfreq_largest :
    nextIs (exec (decode 0x3FFFFFFF) armed) (fun s => decide (s.freq = 49928994723)) = true := by decide
/-- 95 L2.5: Sine at 2,500,000 mHz. -/
theorem test_query :
    nextIs (exec .query { armed with wave := .sine, freq := 2500000 })
      (fun s => decide (s.resp = 0x40006902 ∧ s.respValid = true)) = true := by decide
/-- 95 L2.5: Square at 2^64 - 1, saturated. -/
theorem test_query_saturates :
    nextIs (exec .query { armed with wave := .square, freq := 0xFFFFFFFFFFFFFFFF })
      (fun s => decide (s.resp = 0x2802E99A)) = true := by decide
/-- 95 L2.6: `0xE2987163` writes indices 12 to 15 of the companion string. -/
theorem test_strchunk :
    nextIs (exec (decode 0xE2987163) { armed with strCompanion := Vector.replicate 17 0x2A })
      (fun s => decide (s.strCompanion.toList.drop 11 = [0x2A, 0x61, 0x62, 0x63, 0x00, 0x2A]) && s.chgCompanion &&
        !s.chgSplash) = true := by decide
/-- 95 L2.6: slot 5 is rejected whole. -/
theorem test_strchunk_rejected :
    nextIs (exec (decode 0xE2B87163) armed)
      (fun s => decide (s = { armed with events := [.invalidStringSlot] })) = true := by decide
/-- 95 L2.7. -/
theorem test_ignored :
    nextIs (exec (decode 0x5FFFFFFF) armed) (fun s => decide (s = { armed with events := [.unknownTag] })) = true ∧
    nextIs (exec (decode 0xC0000000) armed) (fun s => decide (s = { armed with events := [.unknownTag] })) = true := by
  decide

/-! ### The frequency codec (95 L2.8) -/

theorem test_codec_constants :
    Config.reference.divisor = 93 ∧ Config.reference.half = 46 ∧ Config.reference.rsat = 134408602 := by decide
theorem test_freqToReg_rounding :
    freqToReg Config.reference 46 = 0 ∧ freqToReg Config.reference 47 = 1 ∧ freqToReg Config.reference 139 = 1 ∧
    freqToReg Config.reference 140 = 2 := by decide
theorem test_nearestFreq : nearestFreq Config.reference 2500000 = 2500026 := by decide

/-! ### Bus events (95 L2.1) -/

/-- B1 and B4. -/
theorem test_addrW :
    (busEvent (.addrW 0x28) armed).busState = .addressedAsReceiver ∧
    (busEvent (.addrW 0x28) armed).answers = [.bus .ack] ∧
    (busEvent (.addrW 0x00) armed).answers = [.bus .nack] := by decide
/-- B5. -/
theorem test_rxByte :
    (busEvent (.rxByte 0x55) (receiving 7 eight [])).rxBuf.getD 7 0 = 0x55 ∧
    (busEvent (.rxByte 0x55) (receiving 7 eight [])).rxLen = 8 := by decide
/-- B6. -/
theorem test_rxByte_overflow :
    busEvent (.rxByte 0x01) (receiving 8 eight []) =
      { receiving 8 eight [] with events := [.receiveOverflow], answers := [.bus .nack] } := by decide
/-- B9. -/
theorem test_term : (busEvent .term (receiving 8 eight [])).queue = [0x20A412B0, 0xA0000000] := by decide
/-- B10. -/
theorem test_term_malformed :
    (busEvent .term (receiving 5 eight [7])).queue = [7] ∧
    (busEvent .term (receiving 5 eight [7])).events = [.malformedTransaction] := by decide
/-- B12: one word fits, the other is dropped. -/
theorem test_term_saturates :
    (busEvent .term (receiving 8 eight [1, 2, 3])).queue = [1, 2, 3, 0x20A412B0] ∧
    (busEvent .term (receiving 8 eight [1, 2, 3])).events = [.queueSaturated] := by decide
/-- B14 and B15. -/
theorem test_addrR :
    (busEvent (.addrR 0x28) { armed with resp := 0x40006902, respValid := true }).txBuf = #v[0x02, 0x69, 0x00, 0x40] ∧
    (busEvent (.addrR 0x28) armed).txLen = 1 := by decide
/-- B16: the third byte. -/
theorem test_txByte :
    (busEvent (.txByte .mnack) { sending with txIdx := 1 }).answers = [.bus (.out 0x69)] := by decide
/-- B24: a repeated START folded into the address event. -/
theorem test_addrR_while_receiving :
    (busEvent (.addrR 0x28) { receiving 4 [0xA0, 0, 0, 0] [] with resp := 0x11223344, respValid := true }).queue =
      [0xA0000000] ∧
    (busEvent (.addrR 0x28) { receiving 4 [0xA0, 0, 0, 0] [] with resp := 0x11223344, respValid := true }).txBuf =
      #v[0x44, 0x33, 0x22, 0x11] := by decide
/-- B21. -/
theorem test_busErr :
    busEvent .busErr (receiving 3 eight [9]) =
      { armed with rxBuf := eight, queue := [9], events := [.busError] } := by decide

/-! ### Ports (95 L2.2) -/

/-- H1: `0xA8` is cut to `0x28`. -/
theorem test_init : (portCall (.initializeSlave 0xA8) (receiving 4 eight [1])).slaveAddr = 0x28 ∧
    (portCall (.initializeSlave 0xA8) (receiving 4 eight [1])).queue = [] := by decide
/-- H6. -/
theorem test_pop :
    popCommand { armed with queue := [0x20, 0xA0000000] } = (some 0x20, { armed with queue := [0xA0000000] }) := by decide
/-- H7: popping an empty queue stops the machine. -/
theorem test_pop_empty : step { armed with coreInput := [.port .popCommand] } = .fault .popEmpty := rfl
/-- H10, the first step and the completion. -/
theorem test_disable :
    disableComplete (portCall .disable armed) = { armed with armed := false } := by decide

/-! ### Steps -/

/-- The step runs the placed word as the first command after reset. -/
theorem test_withFetchWord :
    nextIs (step (State.reset.withFetchWord 32 0x20A412B0)) (fun s => decide (s = { State.reset with freq := 999999984 }))
      = true := by decide
/-- R200: a poll pops the oldest word and does not execute it yet. -/
theorem test_step_pop :
    nextIs (step { armed with queue := [0x20, 0xA0000000] })
      (fun s => decide (s = { armed with queue := [0xA0000000], dispWord := some 0x20 })) = true := by decide
/-- R172: CORE holds while the bus is not idle. -/
theorem test_step_hold :
    nextIs (step { receiving 4 eight [] with disablePending := true, armed := false })
      (fun s => s.disablePending) = true := by decide
/-- R85: a bus event between the pop and the execute stage. -/
theorem test_step_bus :
    nextIs (step { armed with dispWord := some 0xA0000000, turns := [.bus], busInput := [.addrR 0x28] })
      (fun s => decide (s.txLen = 1 ∧ s.dispWord = some 0xA0000000)) = true := by decide

/-! ### Hypotheses that are met, statement by statement -/

/-- SetFreqResult, QueryResult, CodecConstantsInRange, NearestFreqIdempotent, CodecMonotone, ResponseFedBackDecodes: the
smallest and the largest `MCLK`. -/
theorem witness_valid_configurations :
    Config.valid { rxCap := 1, qCap := 1, mclk := 268436 } = true ∧
    Config.valid { rxCap := 1, qCap := 1, mclk := 2 ^ 53 - 1 } = true ∧ State.reset.cfg.valid = true := by decide
/-- IgnoredBitsChangeNothing: words that differ in every ignored bit. -/
theorem witness_ignored_bits :
    ((0x00000036 : Word) >>> 29 = 0 ∧ (0x00000036 : Word) &&& 0xE0000036 = 0x1FFFFFFF &&& 0xE0000036) ∧
    ((0x40000000 : Word) >>> 29 = 2 ∧ (0x40000000 : Word) &&& 0xE0000000 = 0x5FFFFFFF &&& 0xE0000000) ∧
    ((0xC0000000 : Word) >>> 29 = 6 ∧ (0xC0000000 : Word) &&& 0xE0000000 = 0xDFFFFFFF &&& 0xE0000000) ∧
    ((0xE2FFFFFF : Word) >>> 29 = 7 ∧ (0xE2FFFFFF : Word) &&& 0xE2FFFFFF = 0xFFFFFFFF &&& 0xE2FFFFFF) := by decide
/-- SetWaveIndexFormula, FieldsOfFrequencyAndChunkWords. -/
theorem witness_tags :
    (0x1FFFFFFF : Word) >>> 29 = 0 ∧ (0x3FFFFFFF : Word) >>> 29 = 1 ∧ (0xFFFFFFFF : Word) >>> 29 = 7 := by decide
/-- ChunkAcceptedResult, ChunkTwiceIsOnce, ChunkTerminatorEndsText at the highest accepted slot; ChunkRejectedResult at
the lowest rejected one. -/
theorem witness_slots : (4 : BitVec 3).toNat ≤ 4 ∧ 5 ≤ (5 : BitVec 3).toNat := by decide
/-- SetStrShowsText: the longest text taken, and the shortest refused. -/
theorem witness_texts :
    ((List.replicate 15 (0x41 : Char7)).length ≤ 15 ∧ ∀ c ∈ List.replicate 15 (0x41 : Char7), c ≠ 0) ∧
    15 < (List.replicate 16 (0x41 : Char7)).length := by decide
/-- TuningRoundTrip at `RSAT` and just above it; NearestFreqWithinHalfStep at `FMAX`; FreqToRegRounding just where it
rounds up, just below, and above `FMAX`; NearestFreqAboveMax where `RSAT * D ≤ FMAX`. -/
theorem witness_codec :
    Config.reference.valid = true ∧ 134408602 ≤ Config.reference.rsat ∧ Config.reference.rsat < 134408603 ∧
    12500000000 ≤ Config.reference.fmax ∧
    Config.reference.divisor - Config.reference.half ≤ min 47 Config.reference.fmax % Config.reference.divisor ∧
    min 46 Config.reference.fmax % Config.reference.divisor < Config.reference.divisor - Config.reference.half ∧
    Config.reference.fmax < 12500000001 ∧
    Config.reference.rsat * Config.reference.divisor ≤ Config.reference.fmax := by decide
/-- EnqueueAppendsOrDrops: one place left, and none. -/
theorem witness_enqueue :
    ({ armed with queue := [1, 2, 3] }).queue.length < ({ armed with queue := [1, 2, 3] }).cfg.qCap ∧
    ({ armed with queue := [1, 2, 3, 4] }).cfg.qCap ≤ ({ armed with queue := [1, 2, 3, 4] }).queue.length := by decide
/-- PopTakesOldestOrFaults. -/
theorem witness_pop : ({ armed with queue := [1, 2] }).queue = 1 :: [2] ∧ armed.queue = [] := by decide
/-- TransactionKeepsFirstWords: two words held, one place left. -/
theorem witness_transaction :
    (receiving 8 eight [1, 2, 3]).busState = .addressedAsReceiver ∧ (receiving 8 eight [1, 2, 3]).rxLen % 4 = 0 ∧
    rxBounded (receiving 8 eight [1, 2, 3]) ∧ queueBounded (receiving 8 eight [1, 2, 3]) := by
  unfold rxBounded queueBounded; decide
/-- TermAssemblesBigEndianWords: two words held, exactly two places left. -/
theorem witness_assemble :
    (receiving 8 eight [1, 2]).busState = .addressedAsReceiver ∧ (receiving 8 eight [1, 2]).rxLen % 4 = 0 ∧
    rxBounded (receiving 8 eight [1, 2]) ∧
    (receiving 8 eight [1, 2]).queue.length + (receiving 8 eight [1, 2]).rxLen / 4 ≤
      (receiving 8 eight [1, 2]).cfg.qCap := by
  unfold rxBounded; decide
/-- RingRefinesQueue: a full ring that wraps, one with room, and an empty one. -/
theorem witness_ring :
    ringOk 2 { buf := [5, 6], head := 1, tail := 1, count := 2 } = true ∧
    ringView 2 { buf := [5, 6], head := 1, tail := 1, count := 2 } = 6 :: [5] ∧
    ringOk 2 { buf := [5, 6], head := 1, tail := 0, count := 1 } = true ∧
    ringOk 1 { buf := [5], head := 0, tail := 0, count := 0 } = true ∧
    ringView 1 { buf := [5], head := 0, tail := 0, count := 0 } = [] := by decide
/-- AddressMatchStartsReceive, ReadServesResponseLittleEndian, DefaultReadServesOneZero, DisableThenInitializeAdmits. -/
theorem witness_armed_idle :
    armed.busState = .idle ∧ armed.armed = true ∧ armed.respValid = false ∧
    ({ armed with respValid := true }).busState = .idle ∧ ({ armed with respValid := true }).armed = true ∧
    ({ armed with respValid := true }).respValid = true := by decide
/-- AddressMismatchRefused: another address, and an unarmed slave. -/
theorem witness_mismatch :
    armed.busState = .idle ∧ (0x29 : BitVec 7) ≠ armed.slaveAddr ∧ State.reset.busState = .idle ∧
    State.reset.armed = false := by decide
/-- AddressWhileAddressedEndsFirst. -/
theorem witness_addressed : (receiving 4 eight []).busState ≠ .idle ∧ sending.busState ≠ .idle := by decide
/-- DataByteHeldRefusedOrIgnored: the last place, a full scratch, and a slave not receiving. -/
theorem witness_data_byte :
    ((receiving 7 eight []).busState = .addressedAsReceiver ∧
      (receiving 7 eight []).rxLen < (receiving 7 eight []).cfg.rxCap) ∧
    ((receiving 8 eight []).busState = .addressedAsReceiver ∧
      (receiving 8 eight []).rxLen = (receiving 8 eight []).cfg.rxCap) ∧
    sending.busState ≠ .addressedAsReceiver := by decide
/-- TermDiscardsMalformed: each of its three clauses. -/
theorem witness_term :
    ((receiving 5 eight []).busState = .addressedAsReceiver ∧ (receiving 5 eight []).rxLen % 4 ≠ 0) ∧
    sending.busState = .addressedAsTransmitter ∧ armed.busState = .idle := by decide
/-- ReadByteServedOverrunOrSilent: the last captured byte, the first overrun, and a slave not transmitting. -/
theorem witness_read_byte :
    (({ sending with txIdx := 3 }).txIdx < 4 ∧ ({ sending with txIdx := 3 }).busState = .addressedAsTransmitter ∧
      ({ sending with txIdx := 3 }).txIdx < ({ sending with txIdx := 3 }).txLen) ∧
    (({ sending with txIdx := 4 }).busState = .addressedAsTransmitter ∧
      ({ sending with txIdx := 4 }).txIdx = ({ sending with txIdx := 4 }).txLen) ∧
    armed.busState ≠ .addressedAsTransmitter := by decide
/-- WriteTransactionOutcome: two whole words into two places, and five bytes. -/
theorem witness_write :
    armed.busState = .idle ∧ armed.armed = true ∧ armed.rxBuf.length = armed.cfg.rxCap ∧
    ({ armed with queue := [1, 2] }).queue.length + min eight.length armed.cfg.rxCap / 4 ≤ armed.cfg.qCap ∧
    min eight.length armed.cfg.rxCap % 4 = 0 ∧ min (eight.take 5).length armed.cfg.rxCap % 4 ≠ 0 := by decide
/-- The armed machine with `RX_CAP = n`. -/
def armedWith (n : Nat) : State :=
  { armed with cfg := { armed.cfg with rxCap := n }, rxBuf := List.replicate n 0 }

/-- WriteTransactionOutcome with more bytes than `RX_CAP`: nine bytes, `RX_CAP` a multiple of 4 (8) and not one (6), and
no room at all (0); and no data byte. -/
theorem witness_write_overflow :
    (∀ n ∈ [8, 6, 0], (armedWith n).cfg.rxCap < (eight ++ [0xFF]).length ∧ (armedWith n).busState = .idle ∧
      (armedWith n).armed = true ∧ (armedWith n).rxBuf.length = (armedWith n).cfg.rxCap ∧
      (armedWith n).queue.length + min (eight ++ [0xFF]).length (armedWith n).cfg.rxCap / 4 ≤ (armedWith n).cfg.qCap) ∧
    min (eight ++ [0xFF]).length (armedWith 8).cfg.rxCap % 4 = 0 ∧
    min (eight ++ [0xFF]).length (armedWith 6).cfg.rxCap % 4 ≠ 0 ∧
    min ([] : List Byte).length armed.cfg.rxCap % 4 = 0 := by decide
/-- The invariant holds of the armed machine: QueryAnswerReadBack's first hypothesis. -/
theorem witness_inv : armed.Inv where
  configValid := by decide
  queue := by unfold queueBounded; decide
  rx := by unfold rxBounded; decide
  tx := by unfold txBounded; decide
  power := by unfold powerStateLegal; decide
  exclusive := by unfold dispatchExclusive; decide
  response := by unfold responseClear; decide
  splash := by unfold stringLegal; decide
  companion := by unfold stringLegal; decide
/-- QueryAnswerReadBack's other hypotheses, of the same state. -/
theorem witness_query_read_back :
    4 ≤ armed.cfg.rxCap ∧ armed.busState = .idle ∧ armed.armed = true ∧ armed.queue = [] ∧ armed.dispWord = none ∧
    armed.fault = false := by decide
/-- PendingStaysTrueUnderBus. -/
theorem witness_pending : hasPendingCommand { armed with queue := [1] } = true := by decide
/-- StepRunsDecodedCommand. -/
theorem witness_step_executes :
    ({ armed with dispWord := some 0xA0000000 }).cfg.valid = true ∧
    ({ armed with dispWord := some 0xA0000000 }).fault = false ∧
    nextAgent { armed with dispWord := some 0xA0000000 } = .core ∧
    ({ armed with dispWord := some 0xA0000000 }).dispWord = some 0xA0000000 := by decide
/-- StepPopsOldestWord: with a word queued, and with none. -/
theorem witness_step_pops :
    armed.cfg.valid = true ∧ armed.fault = false ∧ nextAgent armed = .core ∧ armed.dispWord = none ∧
    armed.disablePending = false ∧ armed.coreInput = [] ∧ armed.queue = [] ∧
    ({ armed with queue := [1, 2] }).queue = 1 :: [2] := by decide
/-- StepTakesBusEvent. -/
theorem witness_step_bus :
    nextAgent { armed with turns := [.bus], busInput := [.term] } = .bus ∧
    ({ armed with turns := [.bus], busInput := [.term] }).busInput = .term :: [] ∧
    ({ armed with turns := [.bus], busInput := [.term] }).cfg.valid = true ∧
    ({ armed with turns := [.bus], busInput := [.term] }).fault = false := by decide
/-- StepTakesCoreAction: another action with nothing queued, and a pop with a word queued. -/
theorem witness_step_action :
    (nextAgent { armed with coreInput := [.poll] } = .core ∧
      ({ armed with coreInput := [.poll] }).coreInput = .poll :: [] ∧ CoreAction.poll ≠ .port .popCommand) ∧
    ({ armed with coreInput := [.port .popCommand], queue := [1] }).queue ≠ [] ∧
    armed.dispWord = none ∧ armed.disablePending = false ∧ armed.cfg.valid = true ∧ armed.fault = false := by decide
/-- StepHoldsOrCompletesDisable: idle, and not idle. -/
theorem witness_step_disable :
    (nextAgent { State.reset with disablePending := true } = .core ∧
      ({ State.reset with disablePending := true }).busState = .idle ∧
      ({ State.reset with disablePending := true }).dispWord = none ∧ State.reset.cfg.valid = true ∧
      State.reset.fault = false) ∧
    ({ receiving 4 eight [] with disablePending := true, armed := false }).busState ≠ .idle := by decide
/-- StepStopsOnlyAsStated: each of its clauses. -/
theorem witness_stops :
    Config.valid { rxCap := 0, qCap := 1, mclk := 268436 } = false ∧ ({ armed with fault := true }).fault = true ∧
    popsEmpty { armed with coreInput := [.port .popCommand] } ∧ ¬ popsEmpty armed := by
  unfold popsEmpty; decide
/-- InvariantKept, QueueOrderKept: a machine in the invariant that steps. -/
theorem witness_step_next : Sys2Proof.core.step armed = .next armed := rfl
/-- QueueOrderKept on a BUS step that appends. -/
theorem witness_step_bus_next :
    ∃ t, step { receiving 8 eight [] with turns := [.bus], busInput := [.term] } = .next t ∧
      t.queue = [0x20A412B0, 0xA0000000] := ⟨_, rfl, by decide⟩
/-- QueueOrderKept on CORE steps: one that removes the oldest word, and one that empties the queue by `initialize`. -/
theorem witness_step_core_queue :
    (∃ t, step { armed with queue := [1, 2] } = .next t ∧ (1 : Word) :: t.queue = [1, 2]) ∧
    (∃ t, step { armed with queue := [1, 2], coreInput := [.port (.initializeSlave 5)] } = .next t ∧ t.queue = []) :=
  ⟨⟨_, rfl, by decide⟩, ⟨_, rfl, by decide⟩⟩
/-- ResponseSlotWriters: a step that changes the slot. -/
theorem witness_slot_written :
    ∃ t, step { armed with dispWord := some 0xA0000000 } = .next t ∧
      t.respValid ≠ ({ armed with dispWord := some 0xA0000000 }).respValid := ⟨_, rfl, by decide⟩
/-- StringAndDeviceWriters: steps that change a string, the wave type and the frequency. -/
theorem witness_writers :
    (∃ t, step { armed with dispWord := some 0xE2987163 } = .next t ∧
      t.str .companion ≠ ({ armed with dispWord := some 0xE2987163 }).str .companion) ∧
    (∃ t, step { armed with dispWord := some 0x20 } = .next t ∧ t.wave ≠ ({ armed with dispWord := some 0x20 }).wave) ∧
    (∃ t, step { armed with coreInput := [.ui (.setFrequency 5)] } = .next t ∧
      t.freq ≠ ({ armed with coreInput := [.ui (.setFrequency 5)] }).freq) ∧
    (∃ t, step { armed with coreInput := [.ui (.setWaveType .sine)] } = .next t ∧
      t.wave ≠ ({ armed with coreInput := [.ui (.setWaveType .sine)] }).wave) :=
  ⟨⟨_, rfl, by decide⟩, ⟨_, rfl, by decide⟩, ⟨_, rfl, by decide⟩, ⟨_, rfl, by decide⟩⟩
/-- R200: while a word waits in `DISP_WORD`, the step executes it and ENV_UI's access waits. -/
theorem test_ui_waits :
    nextIs (step { armed with dispWord := some 0x20, coreInput := [.ui (.setFrequency 5)] })
      (fun s => decide (s.freq = armed.freq ∧ s.wave = .square ∧ s.coreInput = [.ui (.setFrequency 5)])) = true := by
  decide

end Sys2Proof.Tests
end

section
/-! PROOFS of the statements of 10_state.md. First what one step can do to the registers, case by case; then the
invariant; then the statements, each from these. -/

namespace Sys2Proof.Machine

/-! ### The turn a step takes (R85) -/

/-- The state an agent's turn starts from: `s` with the planned turn used up. -/
def State.spendTurn (s : State) : State := { s with turns := s.turns.tail }

theorem State.spendTurn_of_nil {s : State} (h : s.turns = []) : s.spendTurn = s := by
  cases s; cases h; rfl

theorem coreTurn_pending {s : State} (hd : s.dispWord = none) (hp : s.disablePending = true) :
    coreTurn s = settle (disableComplete s) := by
  simp [coreTurn, hd, hp]

theorem coreTurn_free {s : State} (hd : s.dispWord = none) (hp : s.disablePending = false) :
    coreTurn s = settle (coreFree s) := by
  simp [coreTurn, hd, hp]

/-- CORE's step is its turn, taken with the planned turn used up. -/
theorem step_of_core {s : State} (hv : s.cfg.valid = true) (hf : s.fault = false) (hc : nextAgent s = .core) :
    step s = coreTurn s.spendTurn := by
  rw [step_of_guards hv hf, takeTurn]
  rcases ht : s.turns with _ | ⟨_ | _, rest⟩
  · rw [State.spendTurn_of_nil ht]
  · simp [nextAgent, ht] at hc
  · simp only [State.spendTurn, ht, List.tail_cons]

/-- BUS's step is its turn, taken with the planned turn used up. -/
theorem step_of_bus {s : State} (hv : s.cfg.valid = true) (hf : s.fault = false) (hb : nextAgent s = .bus) :
    step s = settle (busTurn s.spendTurn) := by
  rw [step_of_guards hv hf, takeTurn]
  rcases ht : s.turns with _ | ⟨_ | _, rest⟩
  · simp [nextAgent, ht] at hb
  · simp only [State.spendTurn, ht, List.tail_cons]
  · simp [nextAgent, ht] at hb

/-- While `disable` is pending and no word waits, CORE's step is its completion step (R172, R333). -/
theorem step_of_pending {s : State} (hv : s.cfg.valid = true) (hf : s.fault = false) (hc : nextAgent s = .core)
    (hd : s.dispWord = none) (hp : s.disablePending = true) : step s = settle (disableComplete s.spendTurn) := by
  rw [step_of_core hv hf hc, coreTurn_pending (s := s.spendTurn) hd hp]

/-- With no word waiting and no `disable` pending, CORE's step is the loop's (R176). -/
theorem step_of_free {s : State} (hv : s.cfg.valid = true) (hf : s.fault = false) (hc : nextAgent s = .core)
    (hd : s.dispWord = none) (hp : s.disablePending = false) : step s = settle (coreFree s.spendTurn) := by
  rw [step_of_core hv hf hc, coreTurn_free (s := s.spendTurn) hd hp]

/-- A loop with no action planned polls the dispatcher (R210). -/
theorem coreFree_nil {s : State} (h : s.coreInput = []) : coreFree s = popStage s := by
  simp [coreFree, h]

/-- A loop with an action planned takes it (R297). -/
theorem coreFree_cons {s : State} {a : CoreAction} {rest : List CoreAction} (h : s.coreInput = a :: rest) :
    coreFree s = coreAction a { s with coreInput := rest } := by
  simp [coreFree, h]

/-! ### What a BUS turn leaves alone (R94) -/

/-- What every BUS turn keeps: the configuration, the words queued, the response slot, the device, the strings and
`FAULT`. -/
structure BusFrame (s t : State) : Prop where
  cfg : t.cfg = s.cfg
  appends : ∃ ws, t.queue = s.queue ++ ws
  resp : t.resp = s.resp
  respValid : t.respValid = s.respValid
  wave : t.wave = s.wave
  freq : t.freq = s.freq
  str : ∀ d, t.str d = s.str d
  fault : t.fault = s.fault

theorem busTurn_busFrame (s : State) : BusFrame s (busTurn s) := by
  unfold busTurn
  split
  · exact ⟨rfl, ⟨[], by simp⟩, rfl, rfl, rfl, rfl, fun _ => rfl, rfl⟩
  · next e rest _ =>
    obtain ⟨_, _, _, _, _, _, vs, _, _, _, he⟩ := busEvent_frame e { s with busInput := rest }
    rw [he]
    exact ⟨rfl, ⟨vs, rfl⟩, rfl, rfl, rfl, rfl, fun _ => rfl, rfl⟩

/-! ### What a command does (R202 to R206) -/

/-- The registers each command writes. -/
inductive ExecEffect (s : State) : Instr → State → Prop
  | wave {hi lo x} : ExecEffect s (.setwave hi lo) (setWaveType x s)
  | freq {reg x} : ExecEffect s (.setfreq reg) (setFrequency x s)
  | response {w} : ExecEffect s .query (pushResponse w s)
  | chunk {d k a b c} (accepted : k.toNat ≤ 4) :
      ExecEffect s (.strchunk d k a b c) ((writeChunk d (chunkOffset k) a b c s).setChg d true)
  | logged {i e} : ExecEffect s i (s.log e)

theorem exec_effect (i : Instr) (s : State) : ∃ v, exec i s = .next v ∧ ExecEffect s i v := by
  cases i with
  | setwave hi lo => exact ⟨_, rfl, .wave⟩
  | setfreq reg => exact ⟨_, rfl, .freq⟩
  | query => exact ⟨_, rfl, .response⟩
  | ign2 | ign3 | ign4 | ign6 => exact ⟨_, rfl, .logged⟩
  | strchunk d k a b c =>
    refine ⟨_, rfl, ?_⟩
    rcases Nat.lt_or_ge k.toNat 5 with hk | hk
    · rw [unpackChunk_accepted (Nat.le_of_lt_succ hk)]
      exact .chunk (Nat.le_of_lt_succ hk)
    · rw [unpackChunk_rejected hk]
      exact .logged

/-! ### What the free loop does (R176, R297) -/

/-- What the cooperative loop does when it is free, but for popping an empty queue. -/
inductive FreeEffect (s : State) : State → Prop
  | passed {ci} : FreeEffect s { s with coreInput := ci }
  | answered {x ci} : FreeEffect s (({ s with coreInput := ci }).answer x)
  | took {w q d as ci} (oldest : s.queue = w :: q) :
      FreeEffect s { s with queue := q, dispWord := d, answers := as, coreInput := ci }
  | initialized {a ci} (action : s.coreInput.head? = some (.port (.initializeSlave a))) :
      FreeEffect s (portInit a { s with coreInput := ci })
  | disabled {ci} : FreeEffect s (disableFirst { s with coreInput := ci })
  | pushed {w ci} (action : s.coreInput.head? = some (.port (.pushResponse w))) :
      FreeEffect s (pushResponse w { s with coreInput := ci })
  | wave {x ci} (action : s.coreInput.head? = some (.ui (.setWaveType x))) :
      FreeEffect s (setWaveType x { s with coreInput := ci })
  | freq {x ci} (action : s.coreInput.head? = some (.ui (.setFrequency x))) :
      FreeEffect s (setFrequency x { s with coreInput := ci })
  | cleared {d ci} : FreeEffect s (({ s with coreInput := ci }).setChg d false)

/-- The pop stage, planned or not, takes the oldest word or passes (R200). -/
theorem popStage_effect (s : State) (ci : List CoreAction) : FreeEffect s (popStage { s with coreInput := ci }) := by
  rcases popStage_cases { s with coreInput := ci } with ⟨w, q, hq, he⟩ | ⟨-, he⟩
  · rw [he]; exact .took hq
  · rw [he]; exact .passed

/-- The loop calls `popCommand` next, and no word is queued (R174). -/
def popsEmptyFree (s : State) : Prop := s.coreInput.head? = some (.port .popCommand) ∧ s.queue = []

theorem coreFree_effect {s : State} (h : ¬ popsEmptyFree s) : FreeEffect s (coreFree s) := by
  rcases hi : s.coreInput with _ | ⟨a, ci⟩
  · rw [coreFree_nil hi]
    exact popStage_effect s s.coreInput
  rw [coreFree_cons hi]
  have hh : s.coreInput.head? = some a := by rw [hi]; rfl
  match a with
  | .poll => exact popStage_effect s ci
  | .port (.initializeSlave _) => exact .initialized hh
  | .port .disable => exact .disabled
  | .port .hasPendingCommand => exact .answered
  | .port .popCommand =>
    rcases portPop_cases { s with coreInput := ci } with ⟨w, q, hq, he⟩ | ⟨hq, -⟩
    · rw [coreAction, portCall, he]; exact .took hq
    · exact absurd ⟨hh, hq⟩ h
  | .port (.pushResponse _) => exact .pushed hh
  | .ui (.setWaveType _) => exact .wave hh
  | .ui (.setFrequency _) => exact .freq hh
  | .ui .getWaveType | .ui .getFrequency => exact .answered
  | .lcd (.reset _) => exact .cleared
  | .lcd (.isChanged _) | .lcd (.get _) => exact .answered

/-- Popping an empty queue sets `FAULT` (R174). -/
theorem coreFree_fault_of_popsEmpty {s : State} (h : popsEmptyFree s) : (coreFree s).fault = true := by
  obtain ⟨hh, hq⟩ := h
  obtain ⟨ci, hi⟩ := List.head?_eq_some_iff.1 hh
  rcases portPop_cases { s with coreInput := ci } with ⟨w, q, hq', -⟩ | ⟨-, he⟩
  · exact absurd (hq.symm.trans hq') (List.cons_ne_nil w q).symm
  · rw [coreFree_cons hi]
    exact congrArg State.fault he

theorem FreeEffect.fault_eq {s t : State} (h : FreeEffect s t) : t.fault = s.fault := by
  cases h with
  | cleared => simp
  | _ => rfl

/-! ### What a step does -/

/-- `disable`'s completion step writes `DISABLE_PENDING` alone (R172). -/
theorem disableComplete_frame (s : State) : ∃ p, disableComplete s = { s with disablePending := p } := by
  rcases disableComplete_cases s with ⟨-, he⟩ | ⟨-, he⟩
  · exact ⟨_, he⟩
  · exact ⟨_, he⟩

/-- What CORE's step does: it executes the waiting word, holds for or completes `disable`, or runs the free loop. -/
inductive CoreEffect (s : State) : State → Prop
  | executed {w i v} (word : s.dispWord = some w) (decoded : decode w = i) (effect : ExecEffect s i v) :
      CoreEffect s { v with dispWord := none }
  | held (noWord : s.dispWord = none) : CoreEffect s (disableComplete s)
  | free {t} (noWord : s.dispWord = none) (notPending : s.disablePending = false) (effect : FreeEffect s t) :
      CoreEffect s t

theorem coreTurn_effect {s t : State} (h : coreTurn s = .next t) : CoreEffect s t := by
  rcases coreTurn_next_cases h with ⟨w, v, hd, hv, rfl⟩ | ⟨hd, -, rfl⟩ | ⟨hd, hp, rfl, hf⟩
  · obtain ⟨v', hv', he⟩ := exec_effect (decode w) s
    cases hv.symm.trans hv'
    exact .executed hd rfl he
  · exact .held hd
  · refine .free hd hp (coreFree_effect fun hpop => ?_)
    exact Bool.false_ne_true (hf.symm.trans (coreFree_fault_of_popsEmpty hpop))

/-- A step that answers a next state is a BUS turn or has one of CORE's effects. -/
theorem step_effect {s t : State} (h : step s = .next t) :
    (nextAgent s = .bus ∧ t = busTurn s.spendTurn) ∨
      (nextAgent s = .core ∧ CoreEffect s.spendTurn t) := by
  obtain ⟨hv, hf, -⟩ := step_next_guards h
  cases ha : nextAgent s with
  | bus => exact .inl ⟨rfl, ((settle_eq_next_iff _ _).1 (step_of_bus hv hf ha ▸ h)).2⟩
  | core => exact .inr ⟨rfl, coreTurn_effect (step_of_core hv hf ha ▸ h)⟩

/-! ### The invariant under the shared operations -/

/-- A stored character has bit 7 clear (R237). -/
theorem charByte_getLsbD_seven (c : Char7) : (charByte c).getLsbD 7 = false := by
  simp [charByte]

/-- A 7-bit byte written below index 15, or a terminator written anywhere, keeps a string legal (R237, R238). -/
theorem stringLegal_setIfInBounds {v : Vector Byte 17} {i : Nat} {b : Byte} (hv : stringLegal v)
    (hb : b.getLsbD 7 = false) (hi : i < 15 ∨ b = 0) : stringLegal (v.setIfInBounds i b) := by
  obtain ⟨hbytes, h15, h16⟩ := hv
  have hzero : ∀ j (hj : j < 17), 15 ≤ j → v[j] = 0 → (v.setIfInBounds i b)[j] = 0 := fun j hj hle hvj => by
    rw [Vector.getElem_setIfInBounds]
    split
    · exact hi.resolve_left (by omega)
    · exact hvj
  refine ⟨fun x hx => ?_, hzero 15 _ (by decide) h15, hzero 16 _ (by decide) h16⟩
  rw [Vector.toList_setIfInBounds] at hx
  rcases List.mem_or_eq_of_mem_set hx with hx | rfl
  · exact hbytes x hx
  · exact hb

/-- An accepted chunk keeps its string legal: its characters end below index 15 (R232, R238). -/
theorem stringLegal_str_writeChunk {s : State} {d : DisplayString} {k : BitVec 3} {a b c : Char7} (hk : k.toNat ≤ 4)
    (h : stringLegal (s.str d)) : stringLegal ((writeChunk d (chunkOffset k) a b c s).str d) := by
  have hoff : chunkOffset k ≤ 12 := by unfold chunkOffset; omega
  have hchar := charByte_getLsbD_seven
  have hc := stringLegal_setIfInBounds h (hchar c) (i := chunkOffset k + 2) (.inl (by omega))
  have hbc := stringLegal_setIfInBounds hc (hchar b) (i := chunkOffset k + 1) (.inl (by omega))
  have habc := stringLegal_setIfInBounds hbc (hchar a) (i := chunkOffset k) (.inl (by omega))
  rw [writeChunk_eq, State.str_setStr]
  exact stringLegal_setIfInBounds habc rfl (.inr rfl)

theorem State.Inv.str {s : State} (h : s.Inv) : ∀ d, stringLegal (s.str d)
  | .splash => h.splash
  | .companion => h.companion

theorem setStr_inv {s : State} {d : DisplayString} {v : Vector Byte 17} (h : s.Inv) (hv : stringLegal v) :
    (s.setStr d v).Inv := by
  cases d with
  | splash => exact { h with splash := hv }
  | companion => exact { h with companion := hv }

theorem setChg_inv {s : State} {d : DisplayString} {b : Bool} (h : s.Inv) : (s.setChg d b).Inv := by
  cases d <;> exact { h with }

theorem answerBus_inv {s : State} {a : BusAnswer} (h : s.Inv) : (s.answerBus a).Inv := { h with }

/-! ### The invariant under bus events -/

theorem term_inv {s : State} (h : s.Inv) : (term s).Inv := by
  obtain ⟨vs, es, n, he, hn, hq⟩ := term_cases s
  obtain ⟨hbuf, hlen⟩ := h.rx
  have hqueue : (s.queue ++ vs).length ≤ s.cfg.qCap := by simpa using hq h.queue
  rw [he]
  exact { h with queue := hqueue, rx := ⟨hbuf, hn.trans hlen⟩ }

theorem startReceive_inv {s : State} {a : BitVec 7} (h : s.Inv) : (startReceive a s).Inv := by
  obtain ⟨hbuf, -⟩ := h.rx
  unfold startReceive
  split
  · exact { h with rx := ⟨hbuf, Nat.zero_le _⟩ }
  · exact answerBus_inv h

theorem startTransmit_inv {s : State} {a : BitVec 7} (h : s.Inv) : (startTransmit a s).Inv := by
  obtain ⟨b, n, he, hn⟩ := capture_cases s
  unfold startTransmit
  rw [he]
  split
  · exact { h with tx := ⟨hn, Nat.zero_le _⟩ }
  · exact answerBus_inv h

theorem busRxByte_inv {s : State} {b : Byte} (h : s.Inv) : (busRxByte b s).Inv := by
  obtain ⟨hbuf, -⟩ := h.rx
  unfold busRxByte
  split
  · split
    · next hroom => exact { h with rx := ⟨(List.length_set ..).trans hbuf, hroom⟩ }
    · exact { h with }
  · exact answerBus_inv h
  · exact answerBus_inv h

theorem busTxByte_inv {s : State} {m : MasterAck} (h : s.Inv) : (busTxByte m s).Inv := by
  obtain ⟨hcap, -⟩ := h.tx
  unfold busTxByte
  split
  · split
    · next hmore => exact { h with tx := ⟨hcap, hmore⟩ }
    · exact { h with }
  · exact answerBus_inv h
  · exact answerBus_inv h

theorem busBusErr_inv {s : State} (h : s.Inv) : (busBusErr s).Inv := by
  obtain ⟨hbuf, -⟩ := h.rx
  exact { h with rx := ⟨hbuf, Nat.zero_le _⟩, tx := ⟨Nat.zero_le _, Nat.le_refl _⟩ }

theorem busEvent_inv {s : State} (h : s.Inv) : ∀ e, (busEvent e s).Inv
  | .addrW _ => startReceive_inv (term_inv h)
  | .addrR _ => startTransmit_inv (term_inv h)
  | .rxByte _ => busRxByte_inv h
  | .txByte m => busTxByte_inv (m := m) h
  | .term => term_inv h
  | .busErr => busBusErr_inv h

theorem busTurn_inv {s : State} (h : s.Inv) : (busTurn s).Inv := by
  unfold busTurn
  split
  · exact h
  · next e rest _ =>
    have h' : State.Inv { s with busInput := rest } := { h with }
    exact busEvent_inv h' e

/-! ### The invariant under CORE's steps -/

theorem ExecEffect.inv {s v : State} {i : Instr} (h : s.Inv) (he : ExecEffect s i v) : v.Inv := by
  cases he with
  | wave | freq | logged => exact { h with }
  | response => exact { h with response := nofun }
  | @chunk d _ a b c accepted =>
    have hstr := stringLegal_str_writeChunk (a := a) (b := b) (c := c) accepted (h.str d)
    rw [writeChunk_eq, State.str_setStr] at hstr
    rw [writeChunk_eq]
    exact setChg_inv (setStr_inv h hstr)

/-- The free loop runs with no word waiting and no `disable` pending: only then may the port arm the slave, pop into
`DISP_WORD` or start a `disable` (R170, R171, R176). -/
theorem FreeEffect.inv {s t : State} (h : s.Inv) (hd : s.dispWord = none) (hp : s.disablePending = false)
    (he : FreeEffect s t) : t.Inv := by
  obtain ⟨hbuf, -⟩ := h.rx
  cases he with
  | passed | answered | wave | freq => exact { h with }
  | @took w q _ _ _ oldest =>
    have hq : q.length ≤ s.cfg.qCap := by
      have hqueue : s.queue.length ≤ s.cfg.qCap := h.queue
      rw [oldest, List.length_cons] at hqueue
      omega
    exact { h with queue := hq, exclusive := fun hp' => absurd (hp.symm.trans hp') Bool.false_ne_true }
  | initialized =>
    exact { h with
      queue := Nat.zero_le _
      rx := ⟨hbuf, Nat.zero_le _⟩
      tx := ⟨Nat.zero_le _, Nat.le_refl _⟩
      power := fun ⟨_, hp'⟩ => Bool.false_ne_true (hp.symm.trans hp')
      response := fun _ => rfl }
  | disabled => exact { h with power := nofun, exclusive := fun _ => hd }
  | pushed => exact { h with response := nofun }
  | cleared => exact setChg_inv { h with }

theorem disableComplete_inv {s : State} (h : s.Inv) : (disableComplete s).Inv := by
  rcases disableComplete_cases s with ⟨-, he⟩ | ⟨-, he⟩
  · rw [he]; exact { h with power := nofun, exclusive := nofun }
  · rw [he]; exact h

theorem CoreEffect.inv {s t : State} (h : s.Inv) (he : CoreEffect s t) : t.Inv := by
  cases he with
  | executed _ _ effect => exact { effect.inv h with exclusive := fun _ => rfl }
  | held => exact disableComplete_inv h
  | free hd hp effect => exact effect.inv h hd hp

/-- Settles O56: the invariant does not mention the turns, and every effect of a turn keeps it. -/
theorem invariantKept : Obligations.InvariantKept := by
  intro s t h hstep
  have hu : State.Inv s.spendTurn := { h with }
  rcases step_effect hstep with ⟨-, rfl⟩ | ⟨-, he⟩
  · exact busTurn_inv hu
  · exact he.inv hu

/-! ### The slave before it is armed (R180, R322) -/

/-- A slave that takes no part: unarmed, `Idle`, nothing queued, and every answer so far a refusal or silence. -/
structure TakesNoPart (s : State) : Prop where
  queue : s.queue = []
  armed : s.armed = false
  idle : s.busState = .idle
  answers : ∀ x ∈ s.answers, x = .bus .nack ∨ x = .bus .silent

theorem TakesNoPart.answerBus {s : State} {a : BusAnswer} (h : TakesNoPart s) (ha : a = .nack ∨ a = .silent) :
    TakesNoPart (s.answerBus a) := by
  refine { h with answers := fun x hx => ?_ }
  rw [State.answerBus_answers, List.mem_append, List.mem_singleton] at hx
  rcases hx with hx | rfl
  · exact h.answers x hx
  · exact ha.imp (congrArg _) (congrArg _)

/-- `Term` in `Idle` does nothing (R144). -/
theorem term_of_idle {s : State} (h : s.busState = .idle) : term s = s := by
  simp [term, h]

/-- An unarmed slave answers to no address (R132). -/
theorem addressed_of_unarmed {s : State} (h : s.armed = false) (a : BitVec 7) : addressed a s = false := by
  simp [addressed, h]

theorem busEvent_takesNoPart {s : State} (h : TakesNoPart s) (e : BusEvent) : TakesNoPart (busEvent e s) := by
  have hterm := term_of_idle h.idle
  have haddr := addressed_of_unarmed h.armed
  cases e with
  | addrW a =>
    have he : busEvent (.addrW a) s = s.answerBus .nack := by simp [busEvent, busAddrW, startReceive, hterm, haddr]
    exact he ▸ h.answerBus (.inl rfl)
  | addrR a =>
    have he : busEvent (.addrR a) s = s.answerBus .nack := by simp [busEvent, busAddrR, startTransmit, hterm, haddr]
    exact he ▸ h.answerBus (.inl rfl)
  | rxByte b =>
    have he : busEvent (.rxByte b) s = s.answerBus .silent := by simp [busEvent, busRxByte, h.idle]
    exact he ▸ h.answerBus (.inr rfl)
  | txByte m =>
    have he : busEvent (.txByte m) s = s.answerBus .silent := by simp [busEvent, busTxByte, h.idle]
    exact he ▸ h.answerBus (.inr rfl)
  | term =>
    have he : busEvent .term s = s := hterm
    exact he.symm ▸ h
  | busErr => exact { h with idle := rfl }

theorem busRun_takesNoPart {s : State} (h : TakesNoPart s) (es : List BusEvent) : TakesNoPart (busRun es s) := by
  induction es generalizing s with
  | nil => exact h
  | cons e es ih => exact ih (busEvent_takesNoPart h e)

theorem powerOn_takesNoPart (c : Config) (l : Launch) : TakesNoPart (State.powerOn c l) := ⟨rfl, rfl, rfl, nofun⟩

/-- Settles O48, by induction on the bus events. -/
theorem unarmedTakesNoPart : Obligations.UnarmedTakesNoPart := by
  intro c l es
  have h := busRun_takesNoPart (powerOn_takesNoPart c l) es
  exact ⟨h.queue, h.armed, h.answers⟩

/-! ### Where the machine stops (R292) -/

theorem disableComplete_fault (s : State) : (disableComplete s).fault = s.fault := by
  obtain ⟨p, hp⟩ := disableComplete_frame s
  rw [hp]

theorem busTurn_completes {s : State} (hf : s.fault = false) : ∃ t, settle (busTurn s) = .next t :=
  ⟨_, settle_of_noFault ((busTurn_busFrame s).fault.trans hf)⟩

/-- An unfaulted CORE turn goes on, unless the free loop pops an empty queue. -/
theorem coreTurn_completes {s : State} (hf : s.fault = false)
    (h : s.dispWord = none → s.disablePending = false → ¬ popsEmptyFree s) : ∃ t, coreTurn s = .next t := by
  cases hd : s.dispWord with
  | some w =>
    obtain ⟨v, hv⟩ := exec_completes (decode w) s
    have hvf : v.fault = false := (exec_keeps_fault hv).trans hf
    exact ⟨{ v with dispWord := none }, by simp only [coreTurn, hd, executeStage, hv]; exact settle_of_noFault hvf⟩
  | none =>
    cases hp : s.disablePending with
    | true =>
      rw [coreTurn_pending hd hp]
      exact ⟨_, settle_of_noFault ((disableComplete_fault s).trans hf)⟩
    | false =>
      rw [coreTurn_free hd hp]
      exact ⟨_, settle_of_noFault ((coreFree_effect (h hd hp)).fault_eq.trans hf)⟩

/-- A faulted machine stays faulted (R59). -/
theorem step_of_fault {s : State} (hv : s.cfg.valid = true) (hf : s.fault = true) : step s = .fault .popEmpty := by
  simp [step, guardedTurn, hv, hf]

theorem step_of_popsEmpty {s : State} (hv : s.cfg.valid = true) (hf : s.fault = false) (h : popsEmpty s) :
    step s = .fault .popEmpty := by
  obtain ⟨hc, hd, hp, hpop⟩ := h
  have hfault : (coreFree s.spendTurn).fault = true := coreFree_fault_of_popsEmpty hpop
  rw [step_of_free hv hf hc hd hp, settle, if_pos hfault]

/-- Settles O55: the guards answer the refusal and the lasting fault; past them only the empty pop stops a turn. -/
theorem stepStopsOnlyAsStated : Obligations.StepStopsOnlyAsStated := by
  intro s
  refine ⟨fun hv => by simp [step, guardedTurn, hv], fun hv hstop => ?_, fun hv hf hpop => ?_⟩
  · cases hf : s.fault with
    | true => exact step_of_fault hv hf
    | false => exact step_of_popsEmpty hv hf (hstop.resolve_left (by simp [hf]))
  · cases ha : nextAgent s with
    | bus =>
      rw [step_of_bus hv hf ha]
      exact busTurn_completes hf
    | core =>
      rw [step_of_core hv hf ha]
      exact coreTurn_completes hf fun hd hp hempty => hpop ⟨ha, hd, hp, hempty⟩

/-! ### What a step does to `QUEUE` -/

theorem ExecEffect.queue_cfg {s v : State} {i : Instr} (h : ExecEffect s i v) : v.queue = s.queue ∧ v.cfg = s.cfg := by
  cases h with
  | chunk => simp [writeChunk_eq]
  | _ => exact ⟨rfl, rfl⟩

theorem disableComplete_queue_cfg (s : State) :
    (disableComplete s).queue = s.queue ∧ (disableComplete s).cfg = s.cfg := by
  obtain ⟨p, hp⟩ := disableComplete_frame s
  rw [hp]
  exact ⟨rfl, rfl⟩

theorem FreeEffect.cfg_eq {s t : State} (h : FreeEffect s t) : t.cfg = s.cfg := by
  cases h with
  | cleared => simp
  | _ => rfl

theorem FreeEffect.queue_cases {s t : State} (h : FreeEffect s t) :
    t.queue = s.queue ∨ (∃ w, s.queue = w :: t.queue) ∨
      (t.queue = [] ∧ ∃ a, s.coreInput.head? = some (.port (.initializeSlave a))) := by
  cases h with
  | took oldest => exact .inr (.inl ⟨_, oldest⟩)
  | initialized action => exact .inr (.inr ⟨rfl, _, action⟩)
  | cleared => exact .inl (by simp)
  | passed | answered | disabled | pushed | wave | freq => exact .inl rfl

/-- Settles O58, effect by effect. -/
theorem queueOrderKept : Obligations.QueueOrderKept := by
  intro s t hstep
  rcases step_effect hstep with ⟨ha, rfl⟩ | ⟨ha, he⟩
  · have hframe := busTurn_busFrame s.spendTurn
    exact ⟨hframe.cfg, .inl ⟨ha, hframe.appends⟩⟩
  cases he with
  | executed _ _ effect =>
    obtain ⟨hq, hcfg⟩ := effect.queue_cfg
    exact ⟨hcfg, .inr ⟨ha, .inl hq⟩⟩
  | held =>
    obtain ⟨hq, hcfg⟩ := disableComplete_queue_cfg s.spendTurn
    exact ⟨hcfg, .inr ⟨ha, .inl hq⟩⟩
  | free hd hp effect =>
    refine ⟨effect.cfg_eq, .inr ⟨ha, ?_⟩⟩
    exact effect.queue_cases.imp_right (Or.imp_right fun ⟨hq, hinit⟩ => ⟨hq, hd, hp, hinit⟩)

/-! ### Who writes the response slot (R40, R41) -/

/-- The response slot, `RESP` with `RESP_VALID` (R84). -/
def State.slot (s : State) : Word × Bool := (s.resp, s.respValid)

theorem slot_ne_iff (s t : State) : t.slot ≠ s.slot ↔ t.resp ≠ s.resp ∨ t.respValid ≠ s.respValid := by
  simp only [State.slot, ne_eq, Prod.mk.injEq, not_and_or]

theorem ExecEffect.slot_writer {s v : State} {i : Instr} (h : ExecEffect s i v) (hne : v.slot ≠ s.slot) :
    i = .query := by
  cases h with
  | response => rfl
  | chunk => simp [State.slot, writeChunk_eq] at hne
  | wave | freq | logged => exact absurd rfl hne

theorem FreeEffect.slot_writer {s t : State} (h : FreeEffect s t) (hne : t.slot ≠ s.slot) :
    (∃ w, s.coreInput.head? = some (.port (.pushResponse w))) ∨
      ∃ a, s.coreInput.head? = some (.port (.initializeSlave a)) := by
  cases h with
  | pushed action => exact .inl ⟨_, action⟩
  | initialized action => exact .inr ⟨_, action⟩
  | cleared => simp [State.slot] at hne
  | passed | answered | took | disabled | wave | freq => exact absurd rfl hne

/-- Settles O59, effect by effect. -/
theorem responseSlotWriters : Obligations.ResponseSlotWriters := by
  intro s t hstep hchange
  have hne := (slot_ne_iff s t).2 hchange
  rcases step_effect hstep with ⟨-, rfl⟩ | ⟨ha, he⟩
  · have hframe := busTurn_busFrame s.spendTurn
    exact absurd (Prod.ext hframe.resp hframe.respValid) hne
  refine ⟨ha, ?_⟩
  cases he with
  | executed word decoded effect => exact .inl ⟨_, word, decoded.trans (effect.slot_writer hne)⟩
  | held =>
    obtain ⟨p, hp⟩ := disableComplete_frame s.spendTurn
    exact absurd (congrArg State.slot hp) hne
  | free hd hp effect => exact .inr ⟨hd, hp, effect.slot_writer hne⟩

/-! ### Who writes the strings and the device (R44, R52, R53) -/

theorem ExecEffect.str_writer {s v : State} {i : Instr} {d : DisplayString} (h : ExecEffect s i v)
    (hne : v.str d ≠ s.str d) : ∃ k a b c, i = .strchunk d k a b c ∧ k.toNat ≤ 4 := by
  cases h with
  | @chunk d' _ _ _ _ accepted =>
    by_cases hd : d = d'
    · exact ⟨_, _, _, _, by rw [hd], accepted⟩
    · rw [State.str_setChg, writeChunk_eq, State.str_setStr_ne _ _ _ _ hd] at hne
      exact absurd rfl hne
  | wave | freq | response | logged => exact absurd rfl hne

theorem FreeEffect.str_eq {s t : State} (h : FreeEffect s t) (d : DisplayString) : t.str d = s.str d := by
  cases h with
  | cleared => rw [State.str_setChg]; rfl
  | _ => rfl

theorem ExecEffect.wave_writer {s v : State} {i : Instr} (h : ExecEffect s i v) (hne : v.wave ≠ s.wave) :
    ∃ hi lo, i = .setwave hi lo := by
  cases h with
  | wave => exact ⟨_, _, rfl⟩
  | chunk => simp [writeChunk_eq] at hne
  | freq | response | logged => exact absurd rfl hne

theorem FreeEffect.wave_writer {s t : State} (h : FreeEffect s t) (hne : t.wave ≠ s.wave) :
    s.coreInput.head? = some (.ui (.setWaveType t.wave)) := by
  cases h with
  | wave action => exact action
  | cleared => simp at hne
  | passed | answered | took | initialized | disabled | pushed | freq => exact absurd rfl hne

theorem ExecEffect.freq_writer {s v : State} {i : Instr} (h : ExecEffect s i v) (hne : v.freq ≠ s.freq) :
    ∃ reg, i = .setfreq reg := by
  cases h with
  | freq => exact ⟨_, rfl⟩
  | chunk => simp [writeChunk_eq] at hne
  | wave | response | logged => exact absurd rfl hne

theorem FreeEffect.freq_writer {s t : State} (h : FreeEffect s t) (hne : t.freq ≠ s.freq) :
    s.coreInput.head? = some (.ui (.setFrequency t.freq)) := by
  cases h with
  | freq action => exact action
  | cleared => simp at hne
  | passed | answered | took | initialized | disabled | pushed | wave => exact absurd rfl hne

/-- Settles O60, effect by effect. -/
theorem stringAndDeviceWriters : Obligations.StringAndDeviceWriters := by
  intro s t hstep
  rcases step_effect hstep with ⟨-, rfl⟩ | ⟨ha, he⟩
  · have hframe := busTurn_busFrame s.spendTurn
    exact ⟨fun d hne => absurd (hframe.str d) hne, fun hne => absurd hframe.wave hne,
      fun hne => absurd hframe.freq hne⟩
  cases he with
  | executed word decoded effect =>
    refine ⟨fun d hne => ?_, fun hne => ?_, fun hne => ?_⟩
    · obtain ⟨k, a, b, c, rfl, accepted⟩ := effect.str_writer hne
      exact ⟨ha, _, k, a, b, c, word, decoded, accepted⟩
    · obtain ⟨hi, lo, rfl⟩ := effect.wave_writer hne
      exact ⟨ha, .inl ⟨_, hi, lo, word, decoded⟩⟩
    · obtain ⟨reg, rfl⟩ := effect.freq_writer hne
      exact ⟨ha, .inl ⟨_, reg, word, decoded⟩⟩
  | held =>
    obtain ⟨p, hp⟩ := disableComplete_frame s.spendTurn
    rw [hp]
    exact ⟨fun d hne => absurd rfl hne, fun hne => absurd rfl hne, fun hne => absurd rfl hne⟩
  | free hd hp effect =>
    exact ⟨fun d hne => absurd (effect.str_eq d) hne, fun hne => ⟨ha, .inr ⟨hd, hp, effect.wave_writer hne⟩⟩,
      fun hne => ⟨ha, .inr ⟨hd, hp, effect.freq_writer hne⟩⟩⟩

/-! ### Single steps and power-on -/

/-- Settles O49, operation by operation. -/
theorem deviceAndDisplayPorts : Obligations.DeviceAndDisplayPorts := by
  intro s t f
  exact ⟨rfl, rfl, rfl, rfl, rfl, rfl, rfl, rfl, rfl, rfl⟩

/-- Settles O51: a free turn with nothing planned is the pop stage. -/
theorem stepPopsOldestWord : Obligations.StepPopsOldestWord := by
  intro s hv hf hc hd hp hi
  have hstep : step s = settle (popStage s.spendTurn) := by
    rw [step_of_free hv hf hc hd hp]
    exact congrArg settle (coreFree_nil hi)
  rw [hstep]
  rcases popStage_cases s.spendTurn with ⟨w, rest, hq, he⟩ | ⟨hq, he⟩
  · refine ⟨fun w' rest' hq' => ?_, fun hq' => ?_⟩
    · cases hq.symm.trans hq'
      rw [he]
      exact settle_of_noFault hf
    · cases hq.symm.trans hq'
  · refine ⟨fun w' rest' hq' => ?_, fun _ => ?_⟩
    · cases hq.symm.trans hq'
    · rw [he]
      exact settle_of_noFault hf

/-- Settles O54: the turn is the completion step of `disable`, which holds outside `Idle`. -/
theorem stepHoldsOrCompletesDisable : Obligations.StepHoldsOrCompletesDisable := by
  intro s hv hf hc hd hp
  rw [step_of_pending hv hf hc hd hp]
  rcases disableComplete_cases s.spendTurn with ⟨hb, he⟩ | ⟨hb, he⟩
  · rw [he]
    exact ⟨fun _ => settle_of_noFault hf, fun hb' => absurd hb hb'⟩
  · rw [he]
    exact ⟨fun hb' => absurd hb' hb, fun _ => settle_of_noFault hf⟩

theorem stringLegal_replicate_zero : stringLegal (Vector.replicate 17 0) :=
  ⟨fun b hb => by rw [(Vector.mem_replicate.1 (Vector.mem_toList_iff.1 hb)).2]; rfl, rfl, rfl⟩

/-- The power-on state is in the invariant (R56). -/
theorem powerOn_inv {c : Config} (l : Launch) (hc : c.valid = true) : (State.powerOn c l).Inv where
  configValid := hc
  queue := Nat.zero_le _
  rx := ⟨by simp [State.powerOn], Nat.zero_le _⟩
  tx := ⟨Nat.zero_le _, Nat.le_refl _⟩
  power := nofun
  exclusive := nofun
  response := fun _ => rfl
  splash := stringLegal_replicate_zero
  companion := stringLegal_replicate_zero

/-- Settles O57: the registers of R56 are fields of the power-on state. -/
theorem powerOnState : Obligations.PowerOnState := by
  refine ⟨fun c l hc => ⟨powerOn_inv l hc, _, rfl, rfl, rfl, rfl, rfl, rfl, rfl, rfl, rfl, rfl, rfl, fun i hi => ?_,
    rfl, rfl, rfl, rfl⟩, Config.reference, Launch.zero, by decide, rfl⟩
  exact ⟨Vector.getElem_replicate hi, Vector.getElem_replicate hi⟩

end Sys2Proof.Machine
end

section
/-! PROOFS of the statements of 20_memory.md. The FIFO and its ring, the byte orders of a write and of a read, what the
bus side leaves alone, and the chunk written twice; each statement from the rules of its part. -/

namespace Sys2Proof.Machine

/-! ### The FIFO (R80, R81) -/

/-- Settles O27, from the rules for a queue with room and for a full one. -/
theorem enqueueAppendsOrDrops : Obligations.EnqueueAppendsOrDrops := by
  intro w s
  exact ⟨enqueue_room, enqueue_full⟩

/-- Settles O28, from the rules for a queued word and for an empty queue. -/
theorem popTakesOldestOrFaults : Obligations.PopTakesOldestOrFaults := by
  intro s
  exact ⟨fun _ _ => popCommand_cons, popCommand_nil⟩

/-- Words that all fit are all appended, in order, and nothing is logged. -/
theorem enqueueAll_of_room {ws : List Word} {s : State} (h : s.queue.length + ws.length ≤ s.cfg.qCap) :
    enqueueAll ws s = { s with queue := s.queue ++ ws } := by
  induction ws generalizing s with
  | nil => simp [enqueueAll]
  | cons w ws ih =>
    rw [List.length_cons] at h
    have hw : enqueue w s = { s with queue := s.queue ++ [w] } := enqueue_room (by omega)
    have hws : (enqueue w s).queue.length + ws.length ≤ (enqueue w s).cfg.qCap := by
      rw [hw]
      simpa [Nat.add_assoc, Nat.add_comm 1] using h
    calc enqueueAll (w :: ws) s = enqueueAll ws (enqueue w s) := rfl
      _ = { enqueue w s with queue := (enqueue w s).queue ++ ws } := ih hws
      _ = { s with queue := s.queue ++ w :: ws } := by rw [hw, List.append_assoc, List.singleton_append]

/-! ### The ring that realises the FIFO (R82) -/

theorem ringOk_iff {n : Nat} {r : Ring} :
    ringOk n r = true ↔ r.buf.length = n ∧ r.head < n ∧ r.count ≤ n ∧ r.tail = (r.head + r.count) % n := by
  simp [ringOk, and_assoc]

theorem ringView_length (n : Nat) (r : Ring) : (ringView n r).length = r.count := by
  simp [ringView]

/-- The slots of two words of the view differ: offsets from the head below the capacity do not wrap onto each other. -/
theorem ringSlot_ne {n head i j : Nat} (hi : i < j) (hj : j < n) : (head + i) % n ≠ (head + j) % n := by
  intro h
  have hij : i % n = j % n := Nat.ModEq.add_left_cancel' head h
  rw [Nat.mod_eq_of_lt (hi.trans hj), Nat.mod_eq_of_lt hj] at hij
  omega

theorem ringEnqueue_room {n : Nat} {r : Ring} {w : Word} (h : r.count < n) :
    ringEnqueue n w r =
      { r with buf := r.buf.set r.tail w, tail := (r.tail + 1) % n, count := r.count + 1 } := if_pos h

theorem ringEnqueue_full {n : Nat} {r : Ring} {w : Word} (h : n ≤ r.count) : ringEnqueue n w r = r :=
  if_neg (Nat.not_lt.2 h)

theorem ringOk_ringEnqueue {n : Nat} {r : Ring} (w : Word) (h : ringOk n r = true) :
    ringOk n (ringEnqueue n w r) = true := by
  rcases Nat.lt_or_ge r.count n with hroom | hfull
  · obtain ⟨hbuf, hhead, -, htail⟩ := ringOk_iff.1 h
    rw [ringEnqueue_room hroom]
    refine ringOk_iff.2 ⟨(List.length_set ..).trans hbuf, hhead, hroom, ?_⟩
    simp only [htail, Nat.mod_add_mod, Nat.add_assoc]
  · rwa [ringEnqueue_full hfull]

/-- A word stored at the tail joins the view at its end: the tail is the slot after the last, and no other slot of
the view. -/
theorem ringView_ringEnqueue {n : Nat} {r : Ring} (w : Word) (h : ringOk n r = true) (hroom : r.count < n) :
    ringView n (ringEnqueue n w r) = ringView n r ++ [w] := by
  obtain ⟨hbuf, hhead, -, htail⟩ := ringOk_iff.1 h
  have hlt : r.tail < r.buf.length := by
    rw [htail, hbuf]
    exact Nat.mod_lt _ (Nat.zero_lt_of_lt hhead)
  have hnew : (r.buf.set r.tail w).getD ((r.head + r.count) % n) 0 = w := by
    rw [← htail]
    simp [hlt]
  have hold : ∀ j ∈ List.range r.count,
      (r.buf.set r.tail w).getD ((r.head + j) % n) 0 = r.buf.getD ((r.head + j) % n) 0 := by
    intro j hj
    have hne := ringSlot_ne (head := r.head) (List.mem_range.1 hj) hroom
    simp [List.getD_eq_getElem?_getD, List.getElem?_set_ne (htail ▸ hne.symm)]
  simp only [ringEnqueue_room hroom, ringView, List.range_succ, List.map_append, List.map_singleton, hnew,
    List.map_congr_left hold]

theorem ringDequeue_empty {n : Nat} {r : Ring} (h : r.count = 0) : ringDequeue n r = none := if_pos h

theorem ringDequeue_count_pos {n : Nat} {r : Ring} (h : r.count ≠ 0) :
    ringDequeue n r = some (r.buf.getD r.head 0, { r with head := (r.head + 1) % n, count := r.count - 1 }) :=
  if_neg h

/-- The ring without its head word is in its ranges: its head moves towards a tail that stays. -/
theorem ringOk_dropHead {n : Nat} {r : Ring} (h : ringOk n r = true) (hc : r.count ≠ 0) :
    ringOk n { r with head := (r.head + 1) % n, count := r.count - 1 } = true := by
  obtain ⟨hbuf, hhead, hcount, htail⟩ := ringOk_iff.1 h
  refine ringOk_iff.2 ⟨hbuf, Nat.mod_lt _ (Nat.zero_lt_of_lt hhead), (Nat.sub_le ..).trans hcount, ?_⟩
  rw [htail, Nat.mod_add_mod, show r.head + 1 + (r.count - 1) = r.head + r.count by omega]

/-- The view of a ring that holds a word: the word at the head, then the view of the ring without it. -/
theorem ringView_eq_cons {n : Nat} {r : Ring} (h : ringOk n r = true) (hc : r.count ≠ 0) :
    ringView n r =
      r.buf.getD r.head 0 :: ringView n { r with head := (r.head + 1) % n, count := r.count - 1 } := by
  obtain ⟨-, hhead, -, -⟩ := ringOk_iff.1 h
  obtain ⟨m, hm⟩ := Nat.exists_eq_succ_of_ne_zero hc
  have hrest : ∀ j ∈ List.range m,
      r.buf.getD ((r.head + (j + 1)) % n) 0 = r.buf.getD (((r.head + 1) % n + j) % n) 0 := fun j _ => by
    rw [Nat.mod_add_mod, Nat.add_assoc, Nat.add_comm 1 j]
  simp only [ringView, hm, Nat.succ_eq_add_one, Nat.add_sub_cancel, List.range_succ_eq_map, List.map_cons,
    List.map_map, Function.comp_def, Nat.add_zero, Nat.mod_eq_of_lt hhead, List.map_congr_left hrest]

theorem ringOk_ringClear {n : Nat} {r : Ring} (h : ringOk n r = true) : ringOk n (ringClear r) = true := by
  obtain ⟨hbuf, hhead, -, -⟩ := ringOk_iff.1 h
  exact ringOk_iff.2 ⟨hbuf, Nat.zero_lt_of_lt hhead, Nat.zero_le _, (Nat.zero_mod n).symm⟩

/-- Settles O30, operation by operation: each keeps the ranges and does to the view what it does to `QUEUE`. -/
theorem ringRefinesQueue : Obligations.RingRefinesQueue := by
  intro n r w _ h
  refine ⟨⟨ringOk_ringEnqueue w h, ?_⟩, fun hnil => ?_, fun v rest hcons => ?_, ringOk_ringClear h, rfl⟩
  · rw [ringView_length]
    split
    · next hroom => exact ringView_ringEnqueue w h hroom
    · next hfull => rw [ringEnqueue_full (Nat.le_of_not_lt hfull)]
  · exact ringDequeue_empty ((ringView_length n r).symm.trans (congrArg List.length hnil))
  · have hc : r.count ≠ 0 := by
      rw [← ringView_length n r, hcons]
      exact Nat.succ_ne_zero _
    obtain ⟨rfl, rfl⟩ := List.cons.inj (hcons.symm.trans (ringView_eq_cons h hc))
    exact ⟨_, ringDequeue_count_pos hc, ringOk_dropHead h hc, rfl⟩

/-! ### The bus events, case by case (R131 to R143) -/

/-- `AddrW(a)` in `Idle`, with a match (R131). -/
theorem startReceive_match {a : BitVec 7} {s : State} (h : addressed a s = true) :
    startReceive a s = ({ s with rxLen := 0, busState := .addressedAsReceiver }).answerBus .ack := if_pos h

/-- `AddrR(a)` in `Idle`, with a match (R138). -/
theorem startTransmit_match {a : BitVec 7} {s : State} (h : addressed a s = true) :
    startTransmit a s = ({ capture s with busState := .addressedAsTransmitter }).answerBus .ack := if_pos h

/-- An address of another slave, or of an unarmed one, is refused (R132). -/
theorem startReceive_refused {a : BitVec 7} {s : State} (h : ¬ addressed a s = true) :
    startReceive a s = s.answerBus .nack := if_neg h

theorem startTransmit_refused {a : BitVec 7} {s : State} (h : ¬ addressed a s = true) :
    startTransmit a s = s.answerBus .nack := if_neg h

/-- A data byte with room for it (R134). -/
theorem busRxByte_held {s : State} (b : Byte) (hb : s.busState = .addressedAsReceiver) (h : s.rxLen < s.cfg.rxCap) :
    busRxByte b s = ({ s with rxBuf := s.rxBuf.set s.rxLen b, rxLen := s.rxLen + 1 }).answerBus .ack := by
  simp only [busRxByte, hb, if_pos h]

/-- A data byte past a full scratch (R135). -/
theorem busRxByte_refused {s : State} (b : Byte) (hb : s.busState = .addressedAsReceiver)
    (h : ¬ s.rxLen < s.cfg.rxCap) : busRxByte b s = (s.log .receiveOverflow).answerBus .nack := by
  simp only [busRxByte, hb, if_neg h]

/-- A data byte to a slave that is not receiving (R136). -/
theorem busRxByte_silent {s : State} (b : Byte) (hb : s.busState ≠ .addressedAsReceiver) :
    busRxByte b s = s.answerBus .silent := by
  cases h : s.busState with
  | addressedAsReceiver => exact absurd h hb
  | idle | addressedAsTransmitter => simp only [busRxByte, h]

/-- A read byte while captured bytes are left (R139). -/
theorem busTxByte_served {s : State} (m : MasterAck) (hb : s.busState = .addressedAsTransmitter)
    (h : s.txIdx < s.txLen) :
    busTxByte m s = ({ s with txIdx := s.txIdx + 1 }).answerBus (.out (txCurrent s)) := by
  simp only [busTxByte, hb, if_pos h]

/-- A read byte past the captured ones (R140). -/
theorem busTxByte_overrun {s : State} (m : MasterAck) (hb : s.busState = .addressedAsTransmitter)
    (h : ¬ s.txIdx < s.txLen) :
    busTxByte m s = ({ s with draws := s.draws + 1 }).answerBus (.out (Config.overrunByte s.draws)) := by
  simp only [busTxByte, hb, if_neg h]

/-- A read byte from a slave that is not transmitting (R141). -/
theorem busTxByte_silent {s : State} (m : MasterAck) (hb : s.busState ≠ .addressedAsTransmitter) :
    busTxByte m s = s.answerBus .silent := by
  cases h : s.busState with
  | addressedAsTransmitter => exact absurd h hb
  | idle | addressedAsReceiver => simp only [busTxByte, h]

/-- `Term` of a write of whole words enqueues the words of the held bytes (R137). -/
theorem term_receive_words {s : State} (hb : s.busState = .addressedAsReceiver) (hm : s.rxLen % 4 = 0) :
    term s = { enqueueAll (wordsOf (s.rxBuf.take s.rxLen)) s with rxLen := 0, busState := .idle } := by
  simp [term, hb, termReceive, hm]

/-- `Term` of a write that is not of whole words discards it and logs it (R137). -/
theorem term_receive_malformed {s : State} (hb : s.busState = .addressedAsReceiver) (hm : ¬ s.rxLen % 4 = 0) :
    term s = { s.log .malformedTransaction with rxLen := 0, busState := .idle } := by
  simp [term, hb, termReceive, hm]

/-- `Term` of a read (R143). -/
theorem term_of_transmitting {s : State} (h : s.busState = .addressedAsTransmitter) :
    term s = { s with busState := .idle } := by
  simp [term, h]

/-! ### The byte order of a write (R72) -/

/-- Word `k` of a run of bytes is made of its bytes `4k` to `4k + 3`. -/
theorem wordsOf_getD {bs : List Byte} {k : Nat} (h : k < bs.length / 4) :
    (wordsOf bs).getD k 0 =
      wordOfBytes (bs.getD (4 * k) 0) (bs.getD (4 * k + 1) 0) (bs.getD (4 * k + 2) 0) (bs.getD (4 * k + 3) 0) := by
  induction bs using wordsOf.induct generalizing k with
  | case1 b0 b1 b2 b3 rest ih =>
    cases k with
    | zero => rfl
    | succ k =>
      have hk : k < rest.length / 4 := by simp only [List.length_cons] at h; omega
      exact ih hk
  | case2 bs hshort =>
    have hnone : wordsOf bs = [] := by
      rw [wordsOf]
      exact hshort
    have hlen := wordsOf_length bs
    rw [hnone, List.length_nil] at hlen
    omega

/-- The bytes held in the scratch are the first `RXLEN` of `RXBUF`. -/
theorem getD_take_of_lt {bs : List Byte} {m i : Nat} (h : i < m) : (bs.take m).getD i 0 = bs.getD i 0 := by
  simp [List.getD_eq_getElem?_getD, List.getElem?_take_of_lt h]

/-- Settles O36: with room for all of them, the words of the held bytes are appended, and word `k` is that of R72. -/
theorem termAssemblesBigEndianWords : Obligations.TermAssemblesBigEndianWords := by
  intro s hb hm ⟨hbuf, hlen⟩ hroom
  have hheld : (s.rxBuf.take s.rxLen).length = s.rxLen := by
    rw [List.length_take, hbuf, Nat.min_eq_left hlen]
  have hwords : (wordsOf (s.rxBuf.take s.rxLen)).length = s.rxLen / 4 := by rw [wordsOf_length, hheld]
  refine ⟨wordsOf (s.rxBuf.take s.rxLen), ?_, hwords, fun k hk => ?_⟩
  · rw [← hwords] at hroom
    rw [busEvent, term_receive_words hb hm, enqueueAll_of_room hroom]
  · rw [wordsOf_getD (by rwa [hheld]), getD_take_of_lt (by omega), getD_take_of_lt (by omega),
      getD_take_of_lt (by omega), getD_take_of_lt (by omega), wordOfBytes]

/-! ### The byte order of a read (R73) -/

theorem busRun_append (es fs : List BusEvent) (s : State) : busRun (es ++ fs) s = busRun fs (busRun es s) :=
  List.foldl_append

theorem busRun_singleton (e : BusEvent) (s : State) : busRun [e] s = busEvent e s := rfl

theorem addressed_self {s : State} (h : s.armed = true) : addressed s.slaveAddr s = true := by
  simp [addressed, h]

/-- `AddrR` of the slave's own address, from `Idle`, with a response available: the response is captured, least
significant byte first (R138). -/
theorem busEvent_addrR_valid {s : State} (hb : s.busState = .idle) (ha : s.armed = true) (hv : s.respValid = true) :
    busEvent (.addrR s.slaveAddr) s = ({ s with
      txBuf := responseBytes s.resp, txLen := 4, txIdx := 0, busState := .addressedAsTransmitter }).answerBus .ack := by
  rw [busEvent, busAddrR, term_of_idle hb, startTransmit_match (addressed_self ha), capture_valid hv]

/-- The state after `n` reads of captured bytes: they were answered in order from `TXIDX` on, which moved past them. -/
def State.served (n : Nat) (s : State) : State :=
  { s with
    txIdx := s.txIdx + n
    answers := s.answers ++ (List.range' s.txIdx n).map fun i => .bus (.out (s.txBuf.toList.getD i 0)) }

theorem served_zero (s : State) : s.served 0 = s := by
  simp [State.served]

/-- One read of a captured byte, then `n` more. -/
theorem served_served_one (n : Nat) (s : State) : (s.served 1).served n = s.served (n + 1) := by
  simp [State.served, List.range'_succ, Nat.add_assoc, Nat.add_comm 1 n]

/-- Reads within the captured bytes serve them in order (R139). -/
theorem busRun_txBytes_served {n : Nat} {s : State} (hb : s.busState = .addressedAsTransmitter)
    (hn : s.txIdx + n ≤ s.txLen) : busRun (List.replicate n (.txByte .mack)) s = s.served n := by
  induction n generalizing s with
  | zero => exact (served_zero s).symm
  | succ n ih =>
    have hfirst : busEvent (.txByte .mack) s = s.served 1 := busTxByte_served .mack hb (by omega)
    have hrest : s.txIdx + 1 + n ≤ s.txLen := by omega
    calc busRun (List.replicate (n + 1) (.txByte .mack)) s
        = busRun (List.replicate n (.txByte .mack)) (busEvent (.txByte .mack) s) := rfl
      _ = (s.served 1).served n := by rw [hfirst]; exact ih (s := s.served 1) hb hrest
      _ = s.served (n + 1) := served_served_one n s

theorem responseByte_eq (w : Word) (i : Nat) : responseByte w i = (w >>> (8 * i)).setWidth 8 := by
  apply BitVec.eq_of_toNat_eq
  simp [responseByte, BitVec.extractLsb'_toNat]

/-- Settles O37: the address event captures `RESP`, four reads serve the four captured bytes, `Term` ends the read. -/
theorem readServesResponseLittleEndian : Obligations.ReadServesResponseLittleEndian := by
  intro s hb ha hv
  refine ⟨responseByte s.resp 0, responseByte s.resp 1, responseByte s.resp 2, responseByte s.resp 3,
    responseByte_eq .., responseByte_eq .., responseByte_eq .., responseByte_eq .., ?_⟩
  have hframe : readFrame s.slaveAddr 4 = [.addrR s.slaveAddr] ++ List.replicate 4 (.txByte .mack) ++ [.term] := rfl
  rw [hframe, busRun_append, busRun_append, busRun_singleton, busRun_singleton, busEvent_addrR_valid hb ha hv,
    busRun_txBytes_served rfl (Nat.le_refl 4), busEvent, term_of_transmitting rfl, ← hb]
  simp [State.served, State.answerBus, State.answer, responseBytes, List.range']

/-! ### The bus never touches CORE's registers (R94, R148) -/

/-- The registers of the CORE side that no bus event reads or writes (R148). -/
structure CoreSide where
  wave : Wave
  freq : BitVec 64
  strSplash : Vector Byte 17
  strCompanion : Vector Byte 17
  chgSplash : Bool
  chgCompanion : Bool
  dispWord : Option Word
  disablePending : Bool

/-- The state with its CORE side replaced. -/
def State.withCoreSide (c : CoreSide) (s : State) : State :=
  { s with
    wave := c.wave, freq := c.freq, strSplash := c.strSplash, strCompanion := c.strCompanion,
    chgSplash := c.chgSplash, chgCompanion := c.chgCompanion, dispWord := c.dispWord,
    disablePending := c.disablePending }

theorem enqueue_withCoreSide (w : Word) (c : CoreSide) (s : State) :
    enqueue w (s.withCoreSide c) = (enqueue w s).withCoreSide c := by
  rcases Nat.lt_or_ge s.queue.length s.cfg.qCap with h | h
  · rw [enqueue_room h, enqueue_room (s := s.withCoreSide c) h]; rfl
  · rw [enqueue_full h, enqueue_full (s := s.withCoreSide c) h]; rfl

theorem enqueueAll_withCoreSide (ws : List Word) (c : CoreSide) (s : State) :
    enqueueAll ws (s.withCoreSide c) = (enqueueAll ws s).withCoreSide c := by
  induction ws generalizing s with
  | nil => rfl
  | cons w ws ih =>
    have hw := ih (enqueue w s)
    rw [← enqueue_withCoreSide] at hw
    exact hw

theorem term_withCoreSide (c : CoreSide) (s : State) : term (s.withCoreSide c) = (term s).withCoreSide c := by
  cases hb : s.busState with
  | idle => rw [term_of_idle hb, term_of_idle (s := s.withCoreSide c) hb]
  | addressedAsTransmitter =>
    rw [term_of_transmitting hb, term_of_transmitting (s := s.withCoreSide c) hb]
    rfl
  | addressedAsReceiver =>
    by_cases hm : s.rxLen % 4 = 0
    · rw [term_receive_words hb hm, term_receive_words (s := s.withCoreSide c) hb hm, enqueueAll_withCoreSide]
      rfl
    · rw [term_receive_malformed hb hm, term_receive_malformed (s := s.withCoreSide c) hb hm]
      rfl

theorem capture_withCoreSide (c : CoreSide) (s : State) : capture (s.withCoreSide c) = (capture s).withCoreSide c := by
  cases hv : s.respValid with
  | true => rw [capture_valid hv, capture_valid (s := s.withCoreSide c) hv]; rfl
  | false => rw [capture_invalid hv, capture_invalid (s := s.withCoreSide c) hv]; rfl

theorem startReceive_withCoreSide (a : BitVec 7) (c : CoreSide) (s : State) :
    startReceive a (s.withCoreSide c) = (startReceive a s).withCoreSide c := by
  by_cases h : addressed a s = true
  · rw [startReceive_match h, startReceive_match (s := s.withCoreSide c) h]; rfl
  · rw [startReceive_refused h, startReceive_refused (s := s.withCoreSide c) h]; rfl

theorem startTransmit_withCoreSide (a : BitVec 7) (c : CoreSide) (s : State) :
    startTransmit a (s.withCoreSide c) = (startTransmit a s).withCoreSide c := by
  by_cases h : addressed a s = true
  · rw [startTransmit_match h, startTransmit_match (s := s.withCoreSide c) h, capture_withCoreSide]; rfl
  · rw [startTransmit_refused h, startTransmit_refused (s := s.withCoreSide c) h]; rfl

theorem busRxByte_withCoreSide (b : Byte) (c : CoreSide) (s : State) :
    busRxByte b (s.withCoreSide c) = (busRxByte b s).withCoreSide c := by
  by_cases hb : s.busState = .addressedAsReceiver
  · by_cases h : s.rxLen < s.cfg.rxCap
    · rw [busRxByte_held b hb h, busRxByte_held (s := s.withCoreSide c) b hb h]; rfl
    · rw [busRxByte_refused b hb h, busRxByte_refused (s := s.withCoreSide c) b hb h]; rfl
  · rw [busRxByte_silent b hb, busRxByte_silent (s := s.withCoreSide c) b hb]; rfl

theorem busTxByte_withCoreSide (m : MasterAck) (c : CoreSide) (s : State) :
    busTxByte m (s.withCoreSide c) = (busTxByte m s).withCoreSide c := by
  by_cases hb : s.busState = .addressedAsTransmitter
  · by_cases h : s.txIdx < s.txLen
    · rw [busTxByte_served m hb h, busTxByte_served (s := s.withCoreSide c) m hb h]; rfl
    · rw [busTxByte_overrun m hb h, busTxByte_overrun (s := s.withCoreSide c) m hb h]; rfl
  · rw [busTxByte_silent m hb, busTxByte_silent (s := s.withCoreSide c) m hb]; rfl

/-- A bus event commutes with any change of the CORE side. -/
theorem busEvent_withCoreSide (e : BusEvent) (c : CoreSide) (s : State) :
    busEvent e (s.withCoreSide c) = (busEvent e s).withCoreSide c := by
  cases e with
  | addrW a => simp only [busEvent, busAddrW, term_withCoreSide, startReceive_withCoreSide]
  | addrR a => simp only [busEvent, busAddrR, term_withCoreSide, startTransmit_withCoreSide]
  | rxByte b => exact busRxByte_withCoreSide b c s
  | txByte m => exact busTxByte_withCoreSide m c s
  | term => exact term_withCoreSide c s
  | busErr => rfl

/-- Settles O41: event by event for the CORE side, and by the frame of a bus event for the four registers it keeps. -/
theorem busNeverTouchesCoreState : Obligations.BusNeverTouchesCoreState := by
  intro e s w f v0 v1 c0 c1 dw dp
  refine ⟨busEvent_withCoreSide e ⟨w, f, v0, v1, c0, c1, dw, dp⟩ s, ?_⟩
  obtain ⟨_, _, _, _, _, _, _, _, _, _, he⟩ := busEvent_frame e s
  rw [he]
  exact ⟨rfl, rfl, rfl, rfl⟩

/-! ### Words stay queued whatever the bus does (R90) -/

theorem busEvent_busFrame (e : BusEvent) (s : State) : BusFrame s (busEvent e s) := by
  obtain ⟨_, _, _, _, _, _, vs, _, _, _, he⟩ := busEvent_frame e s
  rw [he]
  exact ⟨rfl, ⟨vs, rfl⟩, rfl, rfl, rfl, rfl, fun _ => rfl, rfl⟩

theorem BusFrame.refl (s : State) : BusFrame s s :=
  ⟨rfl, ⟨[], (List.append_nil _).symm⟩, rfl, rfl, rfl, rfl, fun _ => rfl, rfl⟩

theorem BusFrame.trans {s t u : State} (h : BusFrame s t) (k : BusFrame t u) : BusFrame s u where
  cfg := k.cfg.trans h.cfg
  appends := by
    obtain ⟨vs, hv⟩ := h.appends
    obtain ⟨ws, hw⟩ := k.appends
    exact ⟨vs ++ ws, by rw [hw, hv, List.append_assoc]⟩
  resp := k.resp.trans h.resp
  respValid := k.respValid.trans h.respValid
  wave := k.wave.trans h.wave
  freq := k.freq.trans h.freq
  str := fun d => (k.str d).trans (h.str d)
  fault := k.fault.trans h.fault

/-- A run of bus events keeps what each event keeps. -/
theorem busRun_busFrame (es : List BusEvent) (s : State) : BusFrame s (busRun es s) := by
  induction es generalizing s with
  | nil => exact .refl s
  | cons e es ih => exact (busEvent_busFrame e s).trans (ih (busEvent e s))

theorem hasPendingCommand_iff {s : State} : hasPendingCommand s = true ↔ ∃ w rest, s.queue = w :: rest := by
  cases h : s.queue <;> simp [hasPendingCommand, h]

/-- Settles O47: the bus only appends, so the oldest word stays where the pop takes it. -/
theorem pendingStaysTrueUnderBus : Obligations.PendingStaysTrueUnderBus := by
  intro s es hpending
  obtain ⟨w, rest, hq⟩ := hasPendingCommand_iff.1 hpending
  have hframe := busRun_busFrame es s
  obtain ⟨ws, happ⟩ := hframe.appends
  have hq' : (busRun es s).queue = w :: (rest ++ ws) := by rw [happ, hq, List.cons_append]
  refine ⟨hasPendingCommand_iff.2 ⟨w, rest ++ ws, hq'⟩, { busRun es s with queue := rest ++ ws }, ?_, hframe.fault⟩
  rw [popCommand_cons hq', hq, List.head?_cons]

/-! ### The turn of the bus (R85) -/

theorem busTurn_cons {s : State} {e : BusEvent} {es : List BusEvent} (h : s.busInput = e :: es) :
    busTurn s = busEvent e { s with busInput := es } := by
  simp [busTurn, h]

/-- Settles O52: BUS's step is its turn, whose bus event sets no `FAULT`. -/
theorem stepTakesBusEvent : Obligations.StepTakesBusEvent := by
  intro s e es hv hf hb hi
  have hturn : busTurn s.spendTurn = busEvent e { s.spendTurn with busInput := es } := busTurn_cons hi
  rw [step_of_bus hv hf hb, settle_of_noFault ((busTurn_busFrame s.spendTurn).fault.trans hf), hturn]
  rfl

/-! ### A chunk written twice (R92) -/

/-- A string with a chunk written over it at `off` (R231). -/
def chunkOver (off : Nat) (a b c : Char7) (v : Vector Byte 17) : Vector Byte 17 :=
  (((v.setIfInBounds (off + 2) (charByte c)).setIfInBounds (off + 1) (charByte b)).setIfInBounds off
    (charByte a)).setIfInBounds (off + 3) 0

/-- What an accepted chunk does to the state: its string and its changed flag, nothing else. -/
theorem unpackChunk_eq_chunkOver {d : DisplayString} {k : BitVec 3} (a b c : Char7) (s : State) (hk : k.toNat ≤ 4) :
    unpackChunk d k a b c s = (s.setStr d (chunkOver (chunkOffset k) a b c (s.str d))).setChg d true := by
  rw [unpackChunk_accepted hk, writeChunk_eq, chunkOver]

theorem chunkOver_chunkOver (off : Nat) (a b c : Char7) (v : Vector Byte 17) :
    chunkOver off a b c (chunkOver off a b c v) = chunkOver off a b c v := by
  ext i hi : 1
  simp only [chunkOver, Vector.getElem_setIfInBounds]
  split_ifs <;> rfl

theorem unpackChunk_unpackChunk {d : DisplayString} {k : BitVec 3} (a b c : Char7) (s : State) (hk : k.toNat ≤ 4) :
    unpackChunk d k a b c (unpackChunk d k a b c s) = unpackChunk d k a b c s := by
  simp only [unpackChunk_eq_chunkOver a b c _ hk, State.str_setChg, State.str_setStr, chunkOver_chunkOver,
    State.setStr_setChg_comm, State.setStr_setStr, State.setChg_setChg]

/-- Settles O17: an accepted chunk writes fixed bytes at fixed places and sets a flag. -/
theorem chunkTwiceIsOnce : Obligations.ChunkTwiceIsOnce := by
  intro d k a b c s hk
  exact ⟨unpackChunk d k a b c s, rfl, congrArg Host.Outcome.next (unpackChunk_unpackChunk a b c s hk)⟩

end Sys2Proof.Machine
end

section
/-! PROOFS of the statements of 30_encoding.md. First how a word is put together from its tag and payload and how a
field is taken out of either; then decode and encode, tag by tag; then the response word, the default read, a `QUERY`
over the bus, and the chunks of a text. -/

namespace Sys2Proof.Machine

/-! ### A word is its tag and its payload (R100) -/

theorem commandWord_eq_append (t : BitVec 3) (p : BitVec 29) : commandWord t p = t ++ p :=
  BitVec.setWidth_append_eq_shiftLeft_setWidth_or.symm.trans (BitVec.setWidth_eq _)

@[simp] theorem wordTag_commandWord (t : BitVec 3) (p : BitVec 29) : wordTag (commandWord t p) = t := by
  rw [commandWord_eq_append, wordTag, BitVec.extractLsb'_append_eq_left]

@[simp] theorem wordPayload_commandWord (t : BitVec 3) (p : BitVec 29) : wordPayload (commandWord t p) = p := by
  rw [commandWord_eq_append, wordPayload, BitVec.extractLsb'_append_eq_right]

/-- A field below bit 29 is a field of the payload. -/
theorem extractLsb'_commandWord {k n : Nat} (t : BitVec 3) (p : BitVec 29) (h : k + n ≤ 29) :
    (commandWord t p).extractLsb' k n = p.extractLsb' k n := by
  rw [commandWord_eq_append, BitVec.extractLsb'_append_eq_of_add_le h]

theorem commandWord_wordTag_wordPayload (w : Word) : commandWord (wordTag w) (wordPayload w) = w := by
  rw [commandWord_eq_append]
  exact (BitVec.extractLsb'_append_extractLsb'_eq_extractLsb' (len₁ := 29) (Nat.zero_add 29).symm).trans
    BitVec.extractLsb'_eq_self

theorem commandWord_and (t u : BitVec 3) (p q : BitVec 29) :
    commandWord t p &&& commandWord u q = commandWord (t &&& u) (p &&& q) := by
  simp only [commandWord_eq_append]
  exact BitVec.and_append

/-- A mask that holds the whole tag leaves the tag and masks the payload. -/
theorem and_commandWord_seven (w : Word) (m : BitVec 29) :
    w &&& commandWord 7 m = commandWord (wordTag w) (wordPayload w &&& m) := by
  have h := commandWord_and (wordTag w) 7 (wordPayload w) m
  rwa [commandWord_wordTag_wordPayload, show wordTag w &&& 7 = wordTag w from BitVec.and_allOnes] at h

/-- `word >> 29` is the tag, as a 32-bit number (R100). -/
theorem ushiftRight_eq_setWidth_wordTag (w : Word) : w >>> 29 = (wordTag w).setWidth 32 := by
  apply BitVec.eq_of_toNat_eq
  have hw : w.toNat < 2 ^ 32 := w.isLt
  simp only [wordTag, BitVec.toNat_ushiftRight, BitVec.toNat_setWidth, BitVec.extractLsb'_toNat]
  omega

theorem ushiftRight_eq_iff_wordTag_eq {w : Word} (t : BitVec 3) : w >>> 29 = t.setWidth 32 ↔ wordTag w = t := by
  rw [ushiftRight_eq_setWidth_wordTag]
  exact ⟨fun h => by simpa using congrArg (BitVec.setWidth 3) h, congrArg _⟩

/-! ### A field taken out, and a field put in place -/

/-- A field moved back to its place is the word under the field's mask. -/
theorem setWidth_extractLsb'_shiftLeft {m : Nat} (p : BitVec m) (k n : Nat) :
    (p.extractLsb' k n).setWidth m <<< k = p &&& (BitVec.allOnes n).setWidth m <<< k := by
  ext i hi
  by_cases hk : i < k
  · simp [hk]
  · have hik : k + (i - k) = i := by omega
    simp [hk, hik, Bool.and_comm, BitVec.getLsbD_eq_getElem hi]

/-- A field, as a number of the word's width, by shift and mask. -/
theorem setWidth_extractLsb' {m : Nat} (w : BitVec m) (k n : Nat) :
    (w.extractLsb' k n).setWidth m = (w >>> k) &&& (BitVec.allOnes n).setWidth m := by
  ext i hi
  simp [Bool.and_comm]

section
variable {m n j k l : Nat}

/-- The field at the place where a value was put is the value. -/
theorem extractLsb'_placed_self (x : BitVec n) (h : k + n ≤ m) : (x.setWidth m <<< k).extractLsb' k n = x := by
  ext i hi
  have : k + i < m := by omega
  have : i < m := by omega
  simp [*]

/-- A field above the place where a value was put is 0. -/
theorem extractLsb'_placed_below (x : BitVec l) (h : j + l ≤ k) : (x.setWidth m <<< j).extractLsb' k n = 0#n := by
  ext i hi
  have : x.getLsbD (k + i - j) = false := BitVec.getLsbD_of_ge x _ (by omega)
  simp [this]

/-- A field below the place where a value was put is 0. -/
theorem extractLsb'_placed_above (x : BitVec l) (h : k + n ≤ j) : (x.setWidth m <<< j).extractLsb' k n = 0#n := by
  ext i hi
  have : k + i < j := by omega
  simp [this]

end

theorem targetBit_chunkTarget (w : Word) : targetBit (chunkTarget w) = w.extractLsb' 25 1 := by
  rw [chunkTarget, BitVec.getLsbD_eq_extractLsb']
  rcases BitVec.eq_zero_or_eq_one (w.extractLsb' 25 1) with h | h <;> rw [h] <;> rfl

/-- A word whose bit 25 is a target's selects that target. -/
theorem chunkTarget_of_bit {w : Word} {d : DisplayString} (h : w.extractLsb' 25 1 = targetBit d) :
    chunkTarget w = d := by
  rw [chunkTarget, BitVec.getLsbD_eq_extractLsb', h]
  cases d <;> rfl

/-! ### Decode, tag by tag (R101 to R106) -/

section
variable {w : Word}

theorem decode_tag_zero (h : wordTag w = 0#3) : decode w = .setwave (wordHi w) (wordLo w) := by
  simp only [decode, h]

theorem decode_tag_one (h : wordTag w = 1#3) : decode w = .setfreq (wordPayload w) := by
  simp only [decode, h]

theorem decode_tag_two (h : wordTag w = 2#3) : decode w = .ign2 := by
  simp only [decode, h]

theorem decode_tag_three (h : wordTag w = 3#3) : decode w = .ign3 := by
  simp only [decode, h]

theorem decode_tag_four (h : wordTag w = 4#3) : decode w = .ign4 := by
  simp only [decode, h]

theorem decode_tag_five (h : wordTag w = 5#3) : decode w = .query := by
  simp only [decode, h]

theorem decode_tag_six (h : wordTag w = 6#3) : decode w = .ign6 := by
  simp only [decode, h]

theorem decode_tag_seven (h : wordTag w = 7#3) :
    decode w = .strchunk (chunkTarget w) (chunkSlot w) (chunkCharA w) (chunkCharB w) (chunkCharC w) := by
  simp only [decode, h]

end

/-- The tag of a command's row of the opcode map (R101). -/
def rowTag : Instr → BitVec 3
  | .setwave _ _ => 0#3
  | .setfreq _ => 1#3
  | .ign2 => 2#3
  | .ign3 => 3#3
  | .ign4 => 4#3
  | .query => 5#3
  | .ign6 => 6#3
  | .strchunk _ _ _ _ _ => 7#3

/-- A word's tag is that of the row it decodes to. -/
theorem rowTag_decode (w : Word) : rowTag (decode w) = wordTag w := by
  unfold decode
  split <;> simp only [rowTag, *]

/-- Settles O1, command by command: the fields stand apart in the word, so each is taken out as it was put in. -/
theorem decodeOfEncode : Obligations.DecodeOfEncode := by
  intro i
  cases i with
  | setwave hi lo =>
    refine (decode_tag_zero (wordTag_commandWord _ _)).trans ?_
    simp (disch := decide) only [wordHi, wordLo, extractLsb'_commandWord, BitVec.extractLsb'_or,
      extractLsb'_placed_self, extractLsb'_placed_below, extractLsb'_placed_above, BitVec.or_zero, BitVec.zero_or]
  | setfreq reg =>
    exact (decode_tag_one (wordTag_commandWord _ _)).trans (congrArg _ (wordPayload_commandWord _ _))
  | ign2 => exact decode_tag_two (wordTag_commandWord _ _)
  | ign3 => exact decode_tag_three (wordTag_commandWord _ _)
  | ign4 => exact decode_tag_four (wordTag_commandWord _ _)
  | query => exact decode_tag_five (wordTag_commandWord _ _)
  | ign6 => exact decode_tag_six (wordTag_commandWord _ _)
  | strchunk d k a b c =>
    refine (decode_tag_seven (wordTag_commandWord _ _)).trans ?_
    rw [← BitVec.shiftLeft_zero (c.setWidth 29), chunkTarget_of_bit (d := d)]
    all_goals simp (disch := decide) only [chunkSlot, chunkCharA, chunkCharB, chunkCharC, extractLsb'_commandWord,
      BitVec.extractLsb'_or, extractLsb'_placed_self, extractLsb'_placed_below, extractLsb'_placed_above,
      BitVec.or_zero, BitVec.zero_or]

/-- A command made of a word's tag and of some of its payload's bits is the word under a mask. -/
theorem commandWord_eq_and {w : Word} {t : BitVec 3} {p m : BitVec 29} (ht : wordTag w = t)
    (hp : p = wordPayload w &&& m) : commandWord t p = w &&& commandWord 7 m := by
  rw [and_commandWord_seven, ht, hp]

/-- A field of a word, moved back to its place in the payload, is the payload under the field's mask. -/
theorem extractLsb'_placed_eq_and {k n : Nat} (w : Word) (h : k + n ≤ 29) :
    (w.extractLsb' k n).setWidth 29 <<< k = wordPayload w &&& (BitVec.allOnes n).setWidth 29 <<< k := by
  rw [← setWidth_extractLsb'_shiftLeft, wordPayload, BitVec.extractLsb'_extractLsb'_of_le h]

/-- Settles O2, tag by tag: each field moved back to its place is the word under the field's mask. -/
theorem encodeOfDecodeKeepsReadBits : Obligations.EncodeOfDecodeKeepsReadBits := by
  intro w
  have hnone : (0 : BitVec 29) = wordPayload w &&& 0 := BitVec.and_zero.symm
  match h : wordTag w with
  | 0#3 =>
    rw [decode_tag_zero h]
    refine commandWord_eq_and (m := 0x36) h ?_
    rw [wordHi, wordLo, extractLsb'_placed_eq_and w (by decide), extractLsb'_placed_eq_and w (by decide),
      ← BitVec.and_or_distrib_left]
    rfl
  | 1#3 =>
    rw [decode_tag_one h]
    exact commandWord_eq_and (m := BitVec.allOnes 29) h BitVec.and_allOnes.symm
  | 2#3 => rw [decode_tag_two h]; exact commandWord_eq_and h hnone
  | 3#3 => rw [decode_tag_three h]; exact commandWord_eq_and h hnone
  | 4#3 => rw [decode_tag_four h]; exact commandWord_eq_and h hnone
  | 5#3 => rw [decode_tag_five h]; exact commandWord_eq_and h hnone
  | 6#3 => rw [decode_tag_six h]; exact commandWord_eq_and h hnone
  | 7#3 =>
    rw [decode_tag_seven h]
    refine commandWord_eq_and (m := 0x2FFFFFF) h ?_
    rw [targetBit_chunkTarget, ← BitVec.shiftLeft_zero ((chunkCharC w).setWidth 29)]
    simp (disch := decide) only [chunkSlot, chunkCharA, chunkCharB, chunkCharC, extractLsb'_placed_eq_and,
      ← BitVec.and_or_distrib_left]
    rfl

/-! ### Bits that no formula reads (R106, R114) -/

theorem readMask_decode_congr {w v : Word} (h : wordTag w = wordTag v) :
    readMask (decode w) = readMask (decode v) := by
  unfold decode
  rw [h]
  split <;> rfl

/-- Every row reads the whole tag. -/
theorem wordTag_and_readMask (w : Word) (i : Instr) : wordTag (w &&& readMask i) = wordTag w := by
  have h : wordTag (readMask i) = BitVec.allOnes 3 := by
    cases i <;> simp only [readMask] <;> decide
  rw [wordTag, BitVec.extractLsb'_and]
  exact (congrArg (wordTag w &&& ·) h).trans BitVec.and_allOnes

/-- Words that agree on the bits the row of one of them reads are the same command: they encode to the same word. -/
theorem decode_eq_of_and_readMask_eq {w v : Word} (h : w &&& readMask (decode w) = v &&& readMask (decode w)) :
    decode w = decode v := by
  have htag : wordTag w = wordTag v := by
    simpa only [wordTag_and_readMask] using congrArg wordTag h
  have hword : encode (decode w) = encode (decode v) := by
    rw [encodeOfDecodeKeepsReadBits, encodeOfDecodeKeepsReadBits, h, readMask_decode_congr htag]
  rw [← decodeOfEncode (decode w), hword, decodeOfEncode]

/-- Settles O3: each clause's mask is its row's mask of read bits. -/
theorem ignoredBitsChangeNothing : Obligations.IgnoredBitsChangeNothing := by
  intro w v s
  have hsame {i : Instr} (hi : decode w = i) (h : w &&& readMask i = v &&& readMask i) :
      exec (decode w) s = exec (decode v) s := by
    rw [decode_eq_of_and_readMask_eq (hi ▸ h)]
  have htag := ushiftRight_eq_iff_wordTag_eq (w := w)
  refine ⟨fun ht => hsame (decode_tag_zero ((htag 0).1 ht)), fun ht => ?_,
    fun ht => hsame (decode_tag_seven ((htag 7).1 ht))⟩
  rcases ht with ht | ht | ht | ht | ht
  · exact hsame (decode_tag_two ((htag 2).1 ht))
  · exact hsame (decode_tag_three ((htag 3).1 ht))
  · exact hsame (decode_tag_four ((htag 4).1 ht))
  · exact hsame (decode_tag_five ((htag 5).1 ht))
  · exact hsame (decode_tag_six ((htag 6).1 ht))

/-! ### The rows of the opcode map (R101, R119) -/

theorem rowMatch_eq (i : Instr) : rowMatch i = (rowTag i).setWidth 32 <<< 29 := by
  cases i <;> simp only [rowMatch, rowTag] <;> decide

/-- The tag of a word that decodes to a command of a row is the row's. -/
theorem ushiftRight_of_decode {w : Word} {i : Instr} (h : decode w = i) : w >>> 29 = (rowTag i).setWidth 32 := by
  rw [ushiftRight_eq_iff_wordTag_eq, ← rowTag_decode, h]

/-- Settles O4: the tag gives the command's row, and a command of a row has the row's tag. -/
theorem tagSelectsCommand : Obligations.TagSelectsCommand := by
  intro w
  have htag := ushiftRight_eq_iff_wordTag_eq (w := w)
  refine ⟨⟨fun h => ?_, ?_⟩, ⟨fun h => ?_, ?_⟩, ⟨fun h => ?_, ushiftRight_of_decode⟩,
    ⟨fun h => ?_, ushiftRight_of_decode⟩, ⟨fun h => ?_, ushiftRight_of_decode⟩,
    ⟨fun h => ?_, ushiftRight_of_decode⟩, ⟨fun h => ?_, ushiftRight_of_decode⟩, ⟨fun h => ?_, ?_⟩, ?_⟩
  · exact ⟨_, _, decode_tag_zero ((htag 0).1 h)⟩
  · rintro ⟨_, _, h⟩
    exact ushiftRight_of_decode h
  · exact ⟨_, decode_tag_one ((htag 1).1 h)⟩
  · rintro ⟨_, h⟩
    exact ushiftRight_of_decode h
  · exact decode_tag_two ((htag 2).1 h)
  · exact decode_tag_three ((htag 3).1 h)
  · exact decode_tag_four ((htag 4).1 h)
  · exact decode_tag_five ((htag 5).1 h)
  · exact decode_tag_six ((htag 6).1 h)
  · exact ⟨_, _, _, _, _, decode_tag_seven ((htag 7).1 h)⟩
  · rintro ⟨_, _, _, _, _, h⟩
    exact ushiftRight_of_decode h
  · have hmask := Laws.EncodedRow.mask_commandWord (wordTag w) (wordPayload w)
    rwa [commandWord_wordTag_wordPayload, ← rowTag_decode, ← rowMatch_eq] at hmask

/-! ### The operands of a word (R102 to R105) -/

/-- Settles O6: both fields of the index, by shift and mask and bit by bit. -/
theorem setWaveIndexFormula : Obligations.SetWaveIndexFormula := by
  intro w h
  refine ⟨_, _, decode_tag_zero ((ushiftRight_eq_iff_wordTag_eq 0).1 h), ?_, ?_, ?_⟩
  · rw [waveIndex, BitVec.setWidth_or, wordHi, wordLo, setWidth_extractLsb', setWidth_extractLsb',
      ← BitVec.and_or_distrib_right]
    rfl
  · simp [waveIndex, wordHi, wordLo]
  · simp [waveIndex, wordHi, wordLo]

theorem chunkTarget_eq_companion_iff (w : Word) : chunkTarget w = .companion ↔ (w >>> 25) &&& 1 = 1 := by
  have hfield : (targetBit (chunkTarget w)).setWidth 32 = (w >>> 25) &&& 1 := by
    rw [targetBit_chunkTarget, setWidth_extractLsb']
    rfl
  rw [← hfield]
  cases chunkTarget w <;> decide

/-- Settles O7: each field by its shift and mask. -/
theorem fieldsOfFrequencyAndChunkWords : Obligations.FieldsOfFrequencyAndChunkWords := by
  intro w
  refine ⟨fun h => ⟨_, decode_tag_one ((ushiftRight_eq_iff_wordTag_eq 1).1 h), ?_⟩, fun h =>
    ⟨_, _, _, _, _, decode_tag_seven ((ushiftRight_eq_iff_wordTag_eq 7).1 h), chunkTarget_eq_companion_iff w, ?_⟩⟩
  · have hreg := setWidth_extractLsb' w 0 29
    rwa [BitVec.ushiftRight_zero] at hreg
  · have hslot : (chunkSlot w).setWidth 32 = (w >>> 21) &&& 7 := setWidth_extractLsb' w 21 3
    have hcharC := setWidth_extractLsb' w 0 7
    rw [BitVec.ushiftRight_zero] at hcharC
    refine ⟨hslot, ?_, setWidth_extractLsb' w 14 7, setWidth_extractLsb' w 7 7, hcharC⟩
    rw [chunkOffset, ← hslot, BitVec.toNat_setWidth_of_le (by decide)]

/-! ### The response word (R107, R204) -/

theorem divisor_eq (c : Config) : c.divisor = c.mclk * 1000 / 2 ^ 28 := Nat.shiftRight_eq_div_pow ..

theorem half_eq (c : Config) : c.half = c.divisor / 2 := Nat.shiftRight_eq_div_pow ..

/-- In a valid configuration every tuning word fits 28 bits (R261, R268). -/
theorem freqToReg_lt {c : Config} (h : c.valid = true) (f : Nat) : freqToReg c f < 2 ^ 28 := by
  have hclock : 268436 ≤ c.mclk := by
    simp only [Config.valid, Config.mclkOk, Bool.and_eq_true, decide_eq_true_eq] at h
    omega
  have hdiv := divisor_eq c
  have hhalf := half_eq c
  have hf : min f c.fmax ≤ c.mclk * 500 := Nat.min_le_right ..
  rw [freqToReg, Nat.div_lt_iff_lt_mul (by omega)]
  omega

/-- The response is a command word whose tag is the wave code and whose payload is the tuning word (R107, R213). -/
theorem responseWord_eq_commandWord {c : Config} (h : c.valid = true) (t : Wave) (f : BitVec 64) :
    responseWord c t f = commandWord ((encodeWave t).setWidth 3) (BitVec.ofNat 29 (freqToReg c f.toNat)) := by
  have hreg : freqToReg c f.toNat < 2 ^ 29 := (freqToReg_lt h _).trans (by decide)
  have hcode : ((encodeWave t).setWidth 3).setWidth 32 = (encodeWave t).setWidth 32 := by cases t <;> rfl
  rw [commandWord, hcode, BitVec.setWidth_ofNat_of_le_of_lt (by decide) hreg]
  rfl

theorem commandWord_toNat (t : BitVec 3) (p : BitVec 29) :
    (commandWord t p).toNat = t.toNat * 2 ^ 29 + p.toNat := by
  rw [commandWord_eq_append, BitVec.toNat_append, ← Nat.shiftLeft_add_eq_or_of_lt p.isLt, Nat.shiftLeft_eq]

/-- Settles O11: the response's tag is a wave code, below 4, and its payload a tuning word, below 2^28. -/
theorem queryResult : Obligations.QueryResult := by
  intro s hv
  have hreg := freqToReg_lt hv s.freq.toNat
  have hword := responseWord_eq_commandWord hv s.wave s.freq
  refine ⟨responseWord s.cfg s.wave s.freq, rfl, ?_, ?_, ?_, ?_⟩
  · rw [hword, commandWord_eq_append, BitVec.getLsbD_append]
    simp
  · rw [hword, commandWord_eq_append, BitVec.getLsbD_append]
    exact (BitVec.getLsbD_ofNat ..).trans (Nat.testBit_lt_two_pow hreg)
  · rw [hword, ushiftRight_eq_setWidth_wordTag, wordTag_commandWord]
    cases s.wave <;> rfl
  · have hmask : BitVec.toNat (0x0FFFFFFF : Word) = 2 ^ 28 - 1 := rfl
    have hfit : (BitVec.ofNat 29 (freqToReg s.cfg s.freq.toNat)).toNat = freqToReg s.cfg s.freq.toNat :=
      Nat.mod_eq_of_lt (hreg.trans (by decide))
    rw [BitVec.toNat_and, hmask, Nat.and_two_pow_sub_one_eq_mod, hword, commandWord_toNat, hfit, ← Config.fmax,
      ← divisor_eq, ← half_eq, ← freqToReg]
    omega

/-! ### The default read (R110) -/

theorem busRun_cons (e : BusEvent) (es : List BusEvent) (s : State) : busRun (e :: es) s = busRun es (busEvent e s) :=
  rfl

/-- `AddrR` of the slave's own address, from `Idle`, with no response available: the single byte 0x00 is captured
(R138). -/
theorem busEvent_addrR_invalid {s : State} (hb : s.busState = .idle) (ha : s.armed = true)
    (hv : s.respValid = false) :
    busEvent (.addrR s.slaveAddr) s = ({ s with
      txBuf := s.txBuf.set 0 0, txLen := 1, txIdx := 0, busState := .addressedAsTransmitter }).answerBus .ack := by
  rw [busEvent, busAddrR, term_of_idle hb, startTransmit_match (addressed_self ha), capture_invalid hv]

/-- Settles O38: the address event captures one zero byte, the first read serves it, the second is an overrun, `Term`
ends the read. -/
theorem defaultReadServesOneZero : Obligations.DefaultReadServesOneZero := by
  intro s hb ha hv
  rw [readFrame, List.cons_append, busRun_cons, busRun_append, List.replicate_succ', busRun_append, busRun_singleton,
    busRun_singleton, busEvent_addrR_invalid hb ha hv, busRun_txBytes_served rfl (Nat.le_refl 1), busEvent,
    busTxByte_overrun .mack rfl (Nat.lt_irrefl 1), busEvent, term_of_transmitting rfl, ← hb]
  simp [State.served, State.answerBus, State.answer, List.range', Vector.toList_set]

/-! ### A write of whole words (R137) -/

/-- The state after data bytes were held: they stand in the scratch from `RXLEN` on, which moved past them, each
acknowledged. -/
def State.held (bytes : List Byte) (s : State) : State :=
  { s with
    rxBuf := s.rxBuf.take s.rxLen ++ bytes ++ s.rxBuf.drop (s.rxLen + bytes.length)
    rxLen := s.rxLen + bytes.length
    answers := s.answers ++ List.replicate bytes.length (.bus .ack) }

theorem held_nil (s : State) : s.held [] = s := by
  simp [State.held]

/-- One held byte, then more. -/
theorem held_held_singleton {b : Byte} {bytes : List Byte} {s : State} (h : s.rxLen < s.rxBuf.length) :
    (s.held [b]).held bytes = s.held (b :: bytes) := by
  have hlen : (s.rxBuf.take s.rxLen).length = s.rxLen := List.length_take_of_le (Nat.le_of_lt h)
  have htake : (s.rxBuf.take s.rxLen).take (s.rxLen + 1) = s.rxBuf.take s.rxLen :=
    List.take_of_length_le (by omega)
  have hdrop (n : Nat) : (s.rxBuf.take s.rxLen).drop (s.rxLen + (n + 1)) = [] := List.drop_eq_nil_of_le (by omega)
  simp [State.held, List.take_append, List.drop_append, hlen, htake, hdrop, Nat.add_assoc, Nat.add_comm 1,
    List.replicate_succ]

theorem busRxByte_eq_held {b : Byte} {s : State} (hb : s.busState = .addressedAsReceiver)
    (h : s.rxLen < s.cfg.rxCap) (hbuf : s.rxBuf.length = s.cfg.rxCap) : busRxByte b s = s.held [b] := by
  rw [busRxByte_held b hb h, List.set_eq_take_append_cons_drop, if_pos (hbuf ▸ h)]
  simp [State.held, State.answerBus, State.answer]

/-- Data bytes that fit the scratch are held, in order (R134). -/
theorem busRun_rxBytes_held {bytes : List Byte} {s : State} (hb : s.busState = .addressedAsReceiver)
    (hroom : s.rxLen + bytes.length ≤ s.cfg.rxCap) (hbuf : s.rxBuf.length = s.cfg.rxCap) :
    busRun (bytes.map .rxByte) s = s.held bytes := by
  induction bytes generalizing s with
  | nil => exact (held_nil s).symm
  | cons b bytes ih =>
    rw [List.length_cons] at hroom
    have hlt : s.rxLen < s.rxBuf.length := by omega
    have hfirst : busEvent (.rxByte b) s = s.held [b] := busRxByte_eq_held hb (by omega) hbuf
    have hroom' : (s.held [b]).rxLen + bytes.length ≤ s.cfg.rxCap := by simp [State.held]; omega
    have hbuf' : (s.held [b]).rxBuf.length = s.cfg.rxCap := by simp [State.held]; omega
    calc busRun ((b :: bytes).map .rxByte) s = busRun (bytes.map .rxByte) (busEvent (.rxByte b) s) := rfl
      _ = (s.held [b]).held bytes := by rw [hfirst]; exact ih hb hroom' hbuf'
      _ = s.held (b :: bytes) := held_held_singleton hlt

/-- `Term` enqueues the words of the bytes held since the address, when there is room for all of them (R137). -/
theorem term_held {bytes : List Byte} {s : State} (hb : s.busState = .addressedAsReceiver) (hstart : s.rxLen = 0)
    (hwhole : bytes.length % 4 = 0) (hroom : s.queue.length + (wordsOf bytes).length ≤ s.cfg.qCap) :
    term (s.held bytes) =
      { s.held bytes with rxLen := 0, queue := s.queue ++ wordsOf bytes, busState := .idle } := by
  have hlen : (s.held bytes).rxLen = bytes.length := by simp [State.held, hstart]
  have hbytes : (s.held bytes).rxBuf.take (s.held bytes).rxLen = bytes := by
    rw [hlen]
    simp [State.held, hstart]
  rw [term_receive_words (s := s.held bytes) hb (by rw [hlen, hwhole]), hbytes,
    enqueueAll_of_room (s := s.held bytes) hroom]
  rfl

/-- `AddrW` of the slave's own address, from `Idle` (R131). -/
theorem busEvent_addrW_match {s : State} (hb : s.busState = .idle) (ha : s.armed = true) :
    busEvent (.addrW s.slaveAddr) s =
      ({ s with rxLen := 0, busState := .addressedAsReceiver }).answerBus .ack := by
  rw [busEvent, busAddrW, term_of_idle hb, startReceive_match (addressed_self ha)]

/-- A write of whole words that fit the scratch and the queue enqueues them, and leaves the bus idle (R137). -/
theorem busRun_writeFrame_words {bytes : List Byte} {s : State} (hb : s.busState = .idle) (ha : s.armed = true)
    (hbuf : s.rxBuf.length = s.cfg.rxCap) (hfit : bytes.length ≤ s.cfg.rxCap) (hwhole : bytes.length % 4 = 0)
    (hroom : s.queue.length + (wordsOf bytes).length ≤ s.cfg.qCap) :
    busRun (writeFrame s.slaveAddr bytes) s = { s with
      rxBuf := bytes ++ s.rxBuf.drop bytes.length, rxLen := 0, queue := s.queue ++ wordsOf bytes
      answers := s.answers ++ .bus .ack :: List.replicate bytes.length (.bus .ack) } := by
  have hheld : busRun (bytes.map .rxByte) (busEvent (.addrW s.slaveAddr) s) =
      (busEvent (.addrW s.slaveAddr) s).held bytes := by
    rw [busEvent_addrW_match hb ha]
    exact busRun_rxBytes_held rfl ((Nat.zero_add _).trans_le hfit) hbuf
  rw [writeFrame, List.cons_append, busRun_cons, busRun_append, busRun_singleton, hheld, busEvent_addrW_match hb ha,
    busEvent, term_held rfl rfl hwhole (by exact hroom), ← hb]
  simp [State.held, State.answerBus, State.answer]

theorem wordOfBytes_extractLsb' (w : Word) :
    wordOfBytes (w.extractLsb' 24 8) (w.extractLsb' 16 8) (w.extractLsb' 8 8) (w.extractLsb' 0 8) = w := by
  rw [wordOfBytes, ← BitVec.shiftLeft_zero ((w.extractLsb' 0 8).setWidth 32)]
  simp only [setWidth_extractLsb'_shiftLeft, ← BitVec.and_or_distrib_left]
  exact BitVec.and_allOnes

/-- The bytes of a word make the word again (R72). -/
theorem wordsOf_bytesOfWord (w : Word) : wordsOf (bytesOfWord w) = [w] :=
  congrArg (fun v => [v]) (wordOfBytes_extractLsb' w)

/-- A word written alone to an idle, armed slave with nothing queued is what the pop stage takes. -/
theorem popStage_write_word {w : Word} {s : State} (hinv : s.Inv) (hcap : 4 ≤ s.cfg.rxCap) (hb : s.busState = .idle)
    (ha : s.armed = true) (hq : s.queue = []) :
    popStage (busRun (writeFrame s.slaveAddr (bytesOfWord w)) s) = { s with
      rxBuf := bytesOfWord w ++ s.rxBuf.drop 4, rxLen := 0, dispWord := some w
      answers := s.answers ++ List.replicate 5 (.bus .ack) } := by
  obtain ⟨hbuf, -⟩ := hinv.rx
  have hqcap : 1 ≤ s.cfg.qCap := by
    have hvalid := hinv.configValid
    simp only [Config.valid, Config.qCapOk, Bool.and_eq_true, decide_eq_true_eq] at hvalid
    omega
  have hlen : (bytesOfWord w).length = 4 := rfl
  have hroom : s.queue.length + (wordsOf (bytesOfWord w)).length ≤ s.cfg.qCap := by
    rw [hq, wordsOf_bytesOfWord]
    exact hqcap
  rw [busRun_writeFrame_words hb ha hbuf (hlen ▸ hcap) (by rw [hlen]) hroom, wordsOf_bytesOfWord, hq]
  rfl

/-- The execute stage of `QUERY` pushes the response word (R201, R204). -/
theorem executeStage_encode_query {s : State} (hf : s.fault = false) :
    executeStage (encode .query) s =
      .next { pushResponse (responseWord s.cfg s.wave s.freq) s with dispWord := none } := by
  simp only [executeStage, decodeOfEncode .query]
  exact settle_of_noFault hf

/-- What a read with a response available answers (R138, R139). -/
theorem readFrame_answers {s : State} (hb : s.busState = .idle) (ha : s.armed = true) (hv : s.respValid = true) :
    (busRun (readFrame s.slaveAddr 4) s).answers = s.answers ++
      [Answer.bus .ack, Answer.bus (.out (s.resp.setWidth 8)), Answer.bus (.out ((s.resp >>> 8).setWidth 8)),
        Answer.bus (.out ((s.resp >>> 16).setWidth 8)), Answer.bus (.out ((s.resp >>> 24).setWidth 8))] := by
  obtain ⟨_, _, _, _, rfl, rfl, rfl, rfl, hread⟩ := readServesResponseLittleEndian s hb ha hv
  rw [hread, BitVec.ushiftRight_zero]

/-- Settles O43: the write and the pop stage put `QUERY` into `DISP_WORD`, executing it fills the response slot, and the
read serves the slot. -/
theorem queryAnswerReadBack : Obligations.QueryAnswerReadBack := by
  intro s hinv hcap hb ha hq _ hf
  rw [popStage_write_word hinv hcap hb ha hq]
  exact ⟨_, _, executeStage_encode_query hf, rfl, rfl, readFrame_answers hb ha rfl⟩

/-! ### The chunks of a text (R118, R236) -/

/-- The bytes of a string with a chunk written over it. -/
theorem toList_chunkOver {off : Nat} (a b c : Char7) (v : Vector Byte 17) (h : off + 4 ≤ 17) :
    (chunkOver off a b c v).toList =
      v.toList.take off ++ charByte a :: charByte b :: charByte c :: 0 :: v.toList.drop (off + 4) := by
  have hlen : (v.toList.take off).length = off := by simp; omega
  have hcons (i : Nat) (hi : i < 17) : v.toList.drop i = v[i] :: v.toList.drop (i + 1) := by
    rw [List.drop_eq_getElem_cons (by simpa using hi), Vector.getElem_toList]
  have hv : v.toList =
      v.toList.take off ++ v[off] :: v[off + 1] :: v[off + 2] :: v[off + 3] :: v.toList.drop (off + 4) := by
    rw [← hcons (off + 3), ← hcons (off + 2), ← hcons (off + 1), ← hcons off, List.take_append_drop]
  simp only [chunkOver, Vector.toList_setIfInBounds]
  generalize v.toList.drop (off + 4) = rest at hv ⊢
  rw [hv]
  simp [hlen]

/-- The commands of a text's chunks, from slot `k` on (R118). -/
def chunkCommands (d : DisplayString) (k : Nat) (chunks : List (Char7 × Char7 × Char7)) : List Instr :=
  (chunks.zipIdx k).map fun x => .strchunk d (BitVec.ofNat 3 x.2) x.1.1 x.1.2.1 x.1.2.2

theorem chunkCommands_cons (d : DisplayString) (k : Nat) (a b c : Char7) (chunks : List (Char7 × Char7 × Char7)) :
    chunkCommands d k ((a, b, c) :: chunks) = .strchunk d (BitVec.ofNat 3 k) a b c :: chunkCommands d (k + 1) chunks :=
  rfl

theorem setStr_fits {text : List Char7} (d : DisplayString) (h : text.length ≤ 15) :
    setStr d text = some (chunkCommands d 0 (chunksOf text)) :=
  if_pos (decide_eq_true h)

theorem setStr_too_long {text : List Char7} (d : DisplayString) (h : 15 < text.length) : setStr d text = none :=
  if_neg (by simpa [textFits] using h)

theorem execList_cons {i : Instr} {s t : State} (is : List Instr) (h : exec i s = .next t) :
    execList (i :: is) s = execList is t := by
  rw [execList, h]

/-- The chunk for slot `k` is written at `3 * k` (R112, R231). -/
theorem exec_strchunk_slot {k : Nat} (d : DisplayString) (a b c : Char7) (s : State) (hk : k ≤ 4) :
    exec (.strchunk d (BitVec.ofNat 3 k) a b c) s =
      .next ((s.setStr d (chunkOver (3 * k) a b c (s.str d))).setChg d true) := by
  have hslot : (BitVec.ofNat 3 k).toNat = k := Nat.mod_eq_of_lt (by omega)
  have hoff : chunkOffset (BitVec.ofNat 3 k) = 3 * k := by rw [chunkOffset, hslot, Nat.mul_comm]
  rw [exec, execStrchunk, unpackChunk_eq_chunkOver a b c s (by rw [hslot]; exact hk), hoff]

/-- The commands write `bytes` and a terminator into a string from index `off` on, keep its bytes below `off`, set its
changed flag, and do nothing else. -/
def WritesText (d : DisplayString) (off : Nat) (bytes : List Byte) (is : List Instr) (s : State) : Prop :=
  ∃ v rest, execList is s = .next ((s.setStr d v).setChg d true) ∧
    v.toList = (s.str d).toList.take off ++ (bytes ++ 0 :: rest)

theorem writesText_lastChunk {k : Nat} (d : DisplayString) (a b c : Char7) (s : State) (hk : k ≤ 4) :
    WritesText d (3 * k) [charByte a, charByte b, charByte c] (chunkCommands d k [(a, b, c)]) s :=
  ⟨_, _, execList_cons [] (exec_strchunk_slot d a b c s hk), toList_chunkOver a b c (s.str d) (by omega)⟩

/-- A terminator among the bytes written may count as the one that ends them. -/
theorem WritesText.dropLast_zero {d : DisplayString} {off : Nat} {bytes : List Byte} {is : List Instr} {s : State}
    (h : WritesText d off (bytes ++ [0]) is s) : WritesText d off bytes is s := by
  obtain ⟨v, rest, hexec, hv⟩ := h
  exact ⟨v, 0 :: rest, hexec, by simpa using hv⟩

/-- A chunk that later chunks follow: the next one overwrites its terminator (R231). -/
theorem WritesText.cons {k : Nat} {d : DisplayString} {a b c : Char7} {bytes : List Byte}
    {chunks : List (Char7 × Char7 × Char7)} {s : State} (hk : k ≤ 4)
    (h : WritesText d (3 * (k + 1)) bytes (chunkCommands d (k + 1) chunks)
      ((s.setStr d (chunkOver (3 * k) a b c (s.str d))).setChg d true)) :
    WritesText d (3 * k) (charByte a :: charByte b :: charByte c :: bytes) (chunkCommands d k ((a, b, c) :: chunks))
      s := by
  obtain ⟨v, rest, hexec, hv⟩ := h
  refine ⟨v, rest, ?_, ?_⟩
  · rw [chunkCommands_cons, execList_cons _ (exec_strchunk_slot d a b c s hk), hexec, State.setStr_setChg_comm,
      State.setStr_setStr, State.setChg_setChg]
  · have hlen : ((s.str d).toList.take (3 * k)).length = 3 * k := by simp; omega
    rw [hv, State.str_setChg, State.str_setStr, toList_chunkOver a b c (s.str d) (by omega)]
    simp [List.take_append, hlen, Nat.mul_add]

/-- The chunks of a text that fits, from slot `k` on, write the text and a terminator. -/
theorem writesText_chunksOf {k : Nat} (d : DisplayString) (text : List Char7) (s : State) (hk : k ≤ 4)
    (hfit : 3 * k + text.length ≤ 15) :
    WritesText d (3 * k) (text.map charByte) (chunkCommands d k (chunksOf text)) s := by
  induction text using chunksOf.induct generalizing k s with
  | case1 a b c e rest ih =>
    simp only [List.length_cons] at hfit
    exact .cons hk (ih _ (by omega) (by simp only [List.length_cons]; omega))
  | case2 a b c => exact writesText_lastChunk d a b c s hk
  | case3 a b => exact (writesText_lastChunk d a b 0 s hk).dropLast_zero (bytes := [_, _])
  | case4 a => exact (writesText_lastChunk d a 0 0 s hk).dropLast_zero.dropLast_zero
  | case5 => exact (writesText_lastChunk d 0 0 0 s hk).dropLast_zero.dropLast_zero.dropLast_zero

theorem charByte_ne_zero {c : Char7} (h : c ≠ 0) : charByte c ≠ 0 :=
  fun h0 => h (by simpa [charByte] using congrArg (BitVec.setWidth 7) h0)

/-- A string that starts with nonzero bytes and a terminator shows these bytes (R14). -/
theorem shownText_eq {v : Vector Byte 17} {bytes rest : List Byte} (hv : v.toList = bytes ++ 0 :: rest)
    (hbytes : ∀ b ∈ bytes, b ≠ 0) : shownText v = bytes := by
  rw [shownText, hv, List.takeWhile_append_of_pos (by simpa using hbytes)]
  simp

/-- Settles O19: the chunks write the text's bytes and a terminator, and none of the bytes is a terminator. -/
theorem setStrShowsText : Obligations.SetStrShowsText := by
  intro d text s
  refine ⟨setStr_too_long d, fun hfit hne => ?_⟩
  obtain ⟨v, rest, hexec, hv⟩ := writesText_chunksOf d text s (Nat.zero_le 4) (by omega)
  refine ⟨_, v, setStr_fits d hfit, hexec, shownText_eq hv ?_⟩
  intro b hb
  obtain ⟨c, hc, rfl⟩ := List.mem_map.1 hb
  exact charByte_ne_zero (hne c hc)

end Sys2Proof.Machine
end

section
/-! PROOFS of the statements of 40_bus_transport.md. First what a run of `Enqueue`s does to a queue with any room, and
the transaction of whole words; then a write of any number of bytes; then the bus events one at a time. -/

namespace Sys2Proof.Machine

/-! ### A transaction and the room in the queue (R146) -/

/-- The first words that fit are appended, in order; each of the others leaves one record. -/
theorem enqueueAll_eq (ws : List Word) (s : State) :
    enqueueAll ws s = { s with
      queue := s.queue ++ ws.take (s.cfg.qCap - s.queue.length)
      events := s.events ++ List.replicate (ws.length - (s.cfg.qCap - s.queue.length)) .queueSaturated } := by
  induction ws generalizing s with
  | nil => simp [enqueueAll]
  | cons w ws ih =>
    have hfirst : enqueueAll (w :: ws) s = enqueueAll ws (enqueue w s) := rfl
    rw [hfirst, ih]
    rcases enqueue_cases w s with ⟨hroom, he⟩ | ⟨hfull, he⟩
    · have hplaces : s.cfg.qCap - s.queue.length = s.cfg.qCap - (s.queue.length + 1) + 1 := by omega
      rw [he, hplaces]
      simp
    · have hplaces : s.cfg.qCap - s.queue.length = 0 := Nat.sub_eq_zero_of_le hfull
      rw [he]
      simp [hplaces, List.replicate_succ]

/-- Settles O29: `Term` enqueues the words of the held bytes, one for every four of them. -/
theorem transactionKeepsFirstWords : Obligations.TransactionKeepsFirstWords := by
  intro s hb hm ⟨hbuf, hlen⟩ _
  have hheld : (s.rxBuf.take s.rxLen).length = s.rxLen := by
    rw [List.length_take, hbuf, Nat.min_eq_left hlen]
  have hwords : (wordsOf (s.rxBuf.take s.rxLen)).length = s.rxLen / 4 := by rw [wordsOf_length, hheld]
  refine ⟨hwords, ?_⟩
  rw [busEvent, term_receive_words hb hm, enqueueAll_eq, hwords]

/-! ### A write transaction of any number of bytes (R149) -/

/-- The state after `n` data bytes were refused: each has a record and the answer nack. -/
def State.refused (n : Nat) (s : State) : State :=
  { s with
    events := s.events ++ List.replicate n .receiveOverflow
    answers := s.answers ++ List.replicate n (.bus .nack) }

theorem refused_zero (s : State) : s.refused 0 = s := by
  simp [State.refused]

/-- One refused byte, then `n` more. -/
theorem refused_refused_one (n : Nat) (s : State) : (s.refused 1).refused n = s.refused (n + 1) := by
  simp [State.refused, List.replicate_succ]

/-- Data bytes past a full scratch are refused (R135). -/
theorem busRun_rxBytes_refused {bytes : List Byte} {s : State} (hb : s.busState = .addressedAsReceiver)
    (hfull : ¬ s.rxLen < s.cfg.rxCap) : busRun (bytes.map .rxByte) s = s.refused bytes.length := by
  induction bytes generalizing s with
  | nil => exact (refused_zero s).symm
  | cons b bytes ih =>
    have hfirst : busEvent (.rxByte b) s = s.refused 1 := busRxByte_refused b hb hfull
    calc busRun ((b :: bytes).map .rxByte) s = busRun (bytes.map .rxByte) (busEvent (.rxByte b) s) := rfl
      _ = (s.refused 1).refused bytes.length := by rw [hfirst]; exact ih (s := s.refused 1) hb hfull
      _ = s.refused (bytes.length + 1) := refused_refused_one bytes.length s

/-- Data bytes after the address are held until the scratch is full, and refused from there on (R134, R135). -/
theorem busRun_rxBytes {s : State} (bytes : List Byte) (hb : s.busState = .addressedAsReceiver)
    (hstart : s.rxLen = 0) (hbuf : s.rxBuf.length = s.cfg.rxCap) :
    busRun (bytes.map .rxByte) s = (s.held (bytes.take s.cfg.rxCap)).refused (bytes.length - s.cfg.rxCap) := by
  have hkept : (bytes.take s.cfg.rxCap).length ≤ s.cfg.rxCap := List.length_take_le ..
  rcases Nat.le_total bytes.length s.cfg.rxCap with hfit | hover
  · rw [List.take_of_length_le hfit, Nat.sub_eq_zero_of_le hfit, refused_zero]
    exact busRun_rxBytes_held hb (by omega) hbuf
  · have hfull : ¬ (s.held (bytes.take s.cfg.rxCap)).rxLen < s.cfg.rxCap := by
      simp [State.held, hstart, hover]
    calc busRun (bytes.map .rxByte) s
        = busRun ((bytes.drop s.cfg.rxCap).map .rxByte) (busRun ((bytes.take s.cfg.rxCap).map .rxByte) s) := by
          rw [← busRun_append, ← List.map_append, List.take_append_drop]
      _ = busRun ((bytes.drop s.cfg.rxCap).map .rxByte) (s.held (bytes.take s.cfg.rxCap)) := by
          rw [busRun_rxBytes_held hb (by omega) hbuf]
      _ = _ := by rw [busRun_rxBytes_refused (s := s.held _) hb hfull, List.length_drop]

/-- The state of an armed slave that was idle, after its address and the data bytes of a write, before `Term`: the
scratch holds the first `RX_CAP` of the bytes. -/
def State.written (bytes : List Byte) (s : State) : State :=
  { s with
    rxBuf := bytes.take s.cfg.rxCap ++ s.rxBuf.drop (min bytes.length s.cfg.rxCap)
    rxLen := min bytes.length s.cfg.rxCap
    busState := .addressedAsReceiver
    events := s.events ++ List.replicate (bytes.length - s.cfg.rxCap) .receiveOverflow
    answers := s.answers ++ [.bus .ack] ++ List.replicate (min bytes.length s.cfg.rxCap) (.bus .ack) ++
      List.replicate (bytes.length - s.cfg.rxCap) (.bus .nack) }

theorem busRun_writeFrame {s : State} (bytes : List Byte) (hb : s.busState = .idle) (ha : s.armed = true)
    (hbuf : s.rxBuf.length = s.cfg.rxCap) :
    busRun (writeFrame s.slaveAddr bytes) s = term (s.written bytes) := by
  rw [writeFrame, List.cons_append, busRun_cons, busRun_append, busRun_singleton, busEvent_addrW_match hb ha,
    busRun_rxBytes bytes rfl rfl (by exact hbuf), busEvent]
  simp [State.refused, State.held, State.written, State.answerBus, State.answer, Nat.min_comm]

/-- The held bytes are the first `RX_CAP` bytes of the write. -/
theorem written_scratch (bytes : List Byte) (s : State) :
    (s.written bytes).rxBuf.take (s.written bytes).rxLen = bytes.take s.cfg.rxCap :=
  List.take_left' (by rw [List.length_take, Nat.min_comm]; rfl)

/-- `Term` of a write whose held bytes are whole words, with room for them in the queue (R137). -/
theorem term_written_words {bytes : List Byte} {s : State} (hwhole : min bytes.length s.cfg.rxCap % 4 = 0)
    (hroom : s.queue.length + min bytes.length s.cfg.rxCap / 4 ≤ s.cfg.qCap) :
    term (s.written bytes) = { s.written bytes with
      queue := s.queue ++ wordsOf (bytes.take s.cfg.rxCap), rxLen := 0, busState := .idle } := by
  have hfit : s.queue.length + (wordsOf (bytes.take s.cfg.rxCap)).length ≤ s.cfg.qCap := by
    rwa [wordsOf_length, List.length_take, Nat.min_comm]
  rw [term_receive_words (s := s.written bytes) rfl hwhole, written_scratch,
    enqueueAll_of_room (s := s.written bytes) hfit]
  rfl

/-- `Term` of a write whose held bytes are not whole words (R137). -/
theorem term_written_malformed {bytes : List Byte} {s : State} (hm : min bytes.length s.cfg.rxCap % 4 ≠ 0) :
    term (s.written bytes) = { (s.written bytes).log .malformedTransaction with rxLen := 0, busState := .idle } :=
  term_receive_malformed (s := s.written bytes) rfl hm

/-- Settles O42: the address and the bytes lead to the written state, and `Term` ends it by the bytes held: whole words
are enqueued, anything else is discarded. -/
theorem writeTransactionOutcome : Obligations.WriteTransactionOutcome := by
  intro s bytes hb ha hbuf hroom
  refine ⟨_, busRun_writeFrame bytes hb ha hbuf, ?_⟩
  by_cases hwhole : min bytes.length s.cfg.rxCap % 4 = 0
  · rw [term_written_words hwhole hroom]
    exact ⟨rfl, rfl, rfl, fun _ => ⟨rfl, rfl⟩, fun hm => absurd hwhole hm⟩
  · rw [term_written_malformed hwhole]
    exact ⟨rfl, rfl, rfl, fun h => absurd h hwhole, fun _ => ⟨rfl, rfl⟩⟩

/-! ### Address events (R131 to R133) -/

/-- Settles O31, which is the rule for `AddrW` with a match. -/
theorem addressMatchStartsReceive : Obligations.AddressMatchStartsReceive := by
  intro s hb ha
  exact busEvent_addrW_match hb ha

theorem addressed_iff {a : BitVec 7} {s : State} : addressed a s = true ↔ s.armed = true ∧ a = s.slaveAddr := by
  simp [addressed]

/-- Settles O32: such an address is no match, whichever of the two reasons holds. -/
theorem addressMismatchRefused : Obligations.AddressMismatchRefused := by
  intro s a hb hmismatch
  have hno : ¬ addressed a s = true := by
    rw [addressed_iff]
    rintro ⟨harmed, hown⟩
    rcases hmismatch with hunarmed | hother
    · exact Bool.false_ne_true (hunarmed.symm.trans harmed)
    · exact hother hown
  rw [busEvent, busEvent, busAddrW, busAddrR, term_of_idle hb]
  exact ⟨startReceive_refused hno, startTransmit_refused hno⟩

/-- `Term` ends in `Idle`, from any state (R137, R143, R144). -/
theorem term_busState (s : State) : (term s).busState = .idle := by
  cases hb : s.busState with
  | idle => rw [term_of_idle hb, hb]
  | addressedAsTransmitter => rw [term_of_transmitting hb]
  | addressedAsReceiver =>
    by_cases hm : s.rxLen % 4 = 0
    · rw [term_receive_words hb hm]
    · rw [term_receive_malformed hb hm]

theorem term_term (s : State) : term (term s) = term s := term_of_idle (term_busState s)

/-- Settles O33: an address event begins with the effect of `Term`, and a second `Term` has none. -/
theorem addressWhileAddressedEndsFirst : Obligations.AddressWhileAddressedEndsFirst := by
  intro s a _
  refine ⟨term_busState s, ?_, ?_⟩
  · simp only [busEvent, busAddrW, term_term]
  · simp only [busEvent, busAddrR, term_term]

/-! ### Data bytes, the end of a transaction, a bus error (R134 to R145) -/

/-- Settles O34, by the three rules for a data byte. -/
theorem dataByteHeldRefusedOrIgnored : Obligations.DataByteHeldRefusedOrIgnored := by
  intro s b
  exact ⟨busRxByte_held b, fun hb hfull => busRxByte_refused b hb (Nat.not_lt.2 hfull.ge), busRxByte_silent b⟩

/-- Settles O35, by the rules for `Term` of a malformed write, of a read, and in `Idle`. -/
theorem termDiscardsMalformed : Obligations.TermDiscardsMalformed := by
  intro s
  exact ⟨term_receive_malformed, term_of_transmitting, term_of_idle⟩

/-- Within the scratch, the byte sent is the one at `TXIDX` (R139). -/
theorem txCurrent_eq_getElem {s : State} (h : s.txIdx < 4) : txCurrent s = s.txBuf[s.txIdx] := by
  simp [txCurrent, h]

/-- Settles O39, by the three rules for a read byte. -/
theorem readByteServedOverrunOrSilent : Obligations.ReadByteServedOverrunOrSilent := by
  intro s m
  refine ⟨fun h hb hleft => ?_, fun hb hend => busTxByte_overrun m hb (Nat.not_lt.2 hend.ge), busTxByte_silent m⟩
  rw [← txCurrent_eq_getElem h]
  exact busTxByte_served m hb hleft

/-- Settles O40: the statement is the definition of the event, which does not look at the state it is in. -/
theorem busErrorReturnsToIdle : Obligations.BusErrorReturnsToIdle := by
  intro s
  rfl

end Sys2Proof.Machine
end

section
/-! PROOFS of the statements of 41_transport_host_ports.md. First what a port call does to the registers, each call a
rule of its own; then power-down and the reset after it, and the turn of the loop's next action. -/

namespace Sys2Proof.Machine

/-! ### The reset of the transport (R170, R178) -/

/-- The reset overwrites each register it writes with a value of its own, so a second call finds nothing to change
(R178). -/
theorem portInit_portInit (a : Nat) (s : State) : portInit a (portInit a s) = portInit a s := rfl

/-- Settles O44: the low 7 bits of the address are its residue mod 128. -/
theorem initializeResetsTransport : Obligations.InitializeResetsTransport := by
  intro s a
  exact ⟨⟨BitVec.ofNat 7 a, BitVec.toNat_ofNat a 7, rfl⟩, portInit_portInit a s⟩

/-- A slave just initialized is `Idle` and armed, so it acknowledges its new address and starts a receive (R131, R170). -/
theorem busEvent_addrW_portInit (a : Nat) (s : State) :
    busEvent (.addrW (BitVec.ofNat 7 a)) (portInit a s) =
      ({ portInit a s with rxLen := 0, busState := .addressedAsReceiver }).answerBus .ack :=
  busEvent_addrW_match (s := portInit a s) rfl rfl

/-! ### `disable` (R171, R172) -/

/-- The first step of `disable` disarms the slave and marks the call as pending (R171). -/
theorem disableFirst_eq (s : State) : disableFirst s = { s with armed := false, disablePending := true } := rfl

/-- Its completion step, when the bus is `Idle` already (R172). -/
theorem disableComplete_of_idle {s : State} (hb : s.busState = .idle) :
    disableComplete s = { s with disablePending := false } := by
  rcases disableComplete_cases s with ⟨-, he⟩ | ⟨hne, -⟩
  · exact he
  · exact absurd hb hne

/-- From the first step of `disable` on, an idle slave refuses every write address (R132, R179). -/
theorem busEvent_addrW_disableFirst (x : BitVec 7) {s : State} (hb : s.busState = .idle) :
    busEvent (.addrW x) (disableFirst s) = (disableFirst s).answerBus .nack :=
  (addressMismatchRefused (disableFirst s) x hb (.inl rfl)).1

/-- Settles O45: `disable` disarms, so addresses are refused; the reset arms again, so its own address matches. -/
theorem disableThenInitializeAdmits : Obligations.DisableThenInitializeAdmits := by
  intro s a x hb
  refine ⟨disableFirst_eq s, ?completes, ?refused, _, rfl, rfl, rfl, ?admitted⟩
  case completes => exact disableComplete_of_idle (s := disableFirst s) hb
  case refused => exact congrArg State.answers (busEvent_addrW_disableFirst x hb)
  case admitted =>
    simp only [portCall]
    rw [busEvent_addrW_portInit]
    exact ⟨rfl, rfl⟩

/-! ### `hasPendingCommand` and `pushResponse` (R173, R175) -/

/-- The status that the loop reads is that the queue has a word, `|QUEUE| > 0` (R48). -/
theorem hasPendingCommand_eq_decide (s : State) : hasPendingCommand s = decide (s.queue.length > 0) := by
  cases h : s.queue <;> simp [hasPendingCommand, h]

/-- Settles O46: the push writes the slot and its flag alone; the read only records its answer. -/
theorem pushAndPendingPorts : Obligations.PushAndPendingPorts := by
  intro s w
  refine ⟨rfl, ?_⟩
  rw [← hasPendingCommand_eq_decide]
  rfl

/-! ### The turn of the loop's next action (R176) -/

/-- An action other than `popCommand`, or any action with a word queued, is no pop of an empty queue (R174). -/
theorem not_popsEmptyFree {s : State} {a : CoreAction} {rest : List CoreAction} (hi : s.coreInput = a :: rest)
    (h : a ≠ .port .popCommand ∨ s.queue ≠ []) : ¬ popsEmptyFree s := by
  rintro ⟨hnext, hempty⟩
  rw [hi, List.head?_cons, Option.some_inj] at hnext
  rcases h with hother | hqueued
  · exact hother hnext
  · exact hqueued hempty

/-- Settles O53: CORE's free step is the loop's, which takes the action planned; only an empty pop would set `FAULT`. -/
theorem stepTakesCoreAction : Obligations.StepTakesCoreAction := by
  intro s a rest hv hf hc hd hp hi hnopop
  have hnofault : (coreFree s.spendTurn).fault = false :=
    (coreFree_effect (not_popsEmptyFree (s := s.spendTurn) hi hnopop)).fault_eq.trans hf
  have hturn : coreFree s.spendTurn = coreAction a { s.spendTurn with coreInput := rest } := coreFree_cons hi
  rw [step_of_free hv hf hc hd hp, settle_of_noFault hnofault, hturn]
  rfl

end Sys2Proof.Machine
end

section
/-! PROOFS of the statements of 42_command_dispatcher.md. First what each command does to the registers; then what a
response word decodes to, why no command touches the bus side, and the turn that executes a popped word. -/

namespace Sys2Proof.Machine

/-! ### `SETWAVE` (R202, R207) -/

/-- The map of R207 as a chain of tests: with 2 bits, "else" is only 3. -/
theorem decodeWave_eq_ite (idx : BitVec 2) :
    decodeWave idx = if idx = 0 then .sine else if idx = 1 then .triangle else if idx = 2 then .square else .none := by
  match idx with
  | 0#2 => rfl
  | 1#2 => rfl
  | 2#2 => rfl
  | 3#2 => rfl

/-- Settles O9: the command stores the decoded index, and the index is the OR of the two fields. -/
theorem setWaveResult : Obligations.SetWaveResult := by
  intro hi lo s
  rw [← decodeWave_eq_ite]
  rfl

/-! ### `SETFREQ` (R203, R263, R268) -/

/-- The clock of a valid configuration is below 2^53 Hz (R261). -/
theorem mclk_lt_of_valid {c : Config} (h : c.valid = true) : c.mclk < 2 ^ 53 := by
  simp only [Config.valid, Config.mclkOk, Bool.and_eq_true, decide_eq_true_eq] at h
  obtain ⟨-, -, hclock⟩ := h
  exact hclock

/-- In a valid configuration the divisor fits 35 bits: the clock in mHz is below 2^63 (R261, R268). -/
theorem divisor_lt {c : Config} (h : c.valid = true) : c.divisor < 2 ^ 35 := by
  have hclock := mclk_lt_of_valid h
  rw [divisor_eq]
  omega

/-- The frequency of every 29-bit tuning word fits 64 bits: 29 + 35 = 64 (R268). -/
theorem regToFreq_lt {c : Config} (h : c.valid = true) {reg : Nat} (hreg : reg < 2 ^ 29) :
    regToFreq c reg < 2 ^ 64 :=
  calc reg * c.divisor
    _ < 2 ^ 29 * 2 ^ 35 := Nat.mul_lt_mul'' hreg (divisor_lt h)
    _ = 2 ^ 64 := by norm_num

/-- Settles O10: the product the command stores loses nothing in the 64 bits of `FREQ`. -/
theorem setFreqResult : Obligations.SetFreqResult := by
  intro reg s hv
  refine ⟨BitVec.ofNat 64 (regToFreq s.cfg reg.toNat), rfl, ?_⟩
  rw [BitVec.toNat_ofNat, Nat.mod_eq_of_lt (regToFreq_lt hv reg.isLt), regToFreq, divisor_eq]

/-! ### `STRCHUNK` (R205, R231, R233) -/

/-- The four writes of a chunk go to four different indices, so the terminator, written last, overwrites none of the
characters (R231). -/
theorem chunkWritten_chunkOver (off : Nat) (a b c : Char7) (v : Vector Byte 17) :
    chunkWritten v (chunkOver off a b c v) off a b c := by
  intro i hi
  simp only [chunkOver, Vector.getElem_setIfInBounds, charByte, eq_comm (b := i)]
  by_cases hlast : i = off + 3
  · simp [hlast]
  · simp only [hlast, if_false]

/-- An accepted chunk completes: its string and its changed flag are written, nothing else. -/
theorem exec_strchunk_accepted {k : BitVec 3} (d : DisplayString) (a b c : Char7) (s : State) (hk : k.toNat ≤ 4) :
    exec (.strchunk d k a b c) s =
      .next ((s.setStr d (chunkOver (chunkOffset k) a b c (s.str d))).setChg d true) := by
  rw [exec, execStrchunk, unpackChunk_eq_chunkOver a b c s hk]

/-- Settles O12: for either target, what the accepted chunk leaves in its string is the chunk written at its offset. -/
theorem chunkAcceptedResult : Obligations.ChunkAcceptedResult := by
  intro k a b c s hk
  have hwritten := chunkWritten_chunkOver (chunkOffset k) a b c
  exact ⟨⟨_, exec_strchunk_accepted .splash a b c s hk, hwritten s.strSplash⟩,
    ⟨_, exec_strchunk_accepted .companion a b c s hk, hwritten s.strCompanion⟩⟩

/-! ### The ignored tags (R206) -/

/-- Settles O14: each of the four commands is `log E(UnknownTag)`. -/
theorem ignoredTagsResult : Obligations.IgnoredTagsResult := fun _ => ⟨rfl, rfl, rfl, rfl⟩

/-! ### A response word as a command (R213) -/

/-- The tag of a response word is its wave code (R107, R213). -/
theorem wordTag_responseWord {c : Config} (h : c.valid = true) (t : Wave) (f : BitVec 64) :
    wordTag (responseWord c t f) = (encodeWave t).setWidth 3 := by
  rw [responseWord_eq_commandWord h, wordTag_commandWord]

/-- The payload of a response word is the tuning word (R107, R213). -/
theorem toNat_wordPayload_responseWord {c : Config} (h : c.valid = true) (t : Wave) (f : BitVec 64) :
    (wordPayload (responseWord c t f)).toNat = freqToReg c f.toNat := by
  have hreg : freqToReg c f.toNat < 2 ^ 29 := (freqToReg_lt h _).trans (by decide)
  rw [responseWord_eq_commandWord h, wordPayload_commandWord, BitVec.toNat_ofNat, Nat.mod_eq_of_lt hreg]

/-- Settles O15: the wave code picks the row, 0 to 3. -/
theorem responseFedBackDecodes : Obligations.ResponseFedBackDecodes := by
  intro c f hv
  refine ⟨?none, ?square, ?sine, ?triangle⟩
  case none => exact ⟨_, _, decode_tag_zero (wordTag_responseWord hv .none f)⟩
  case square =>
    exact ⟨_, decode_tag_one (wordTag_responseWord hv .square f), toNat_wordPayload_responseWord hv .square f⟩
  case sine => exact decode_tag_two (wordTag_responseWord hv .sine f)
  case triangle => exact decode_tag_three (wordTag_responseWord hv .triangle f)

/-! ### No command touches the bus side (R212) -/

/-- The bus-side registers and the queue, which no command reads or writes (R212). -/
structure BusSide where
  armed : Bool
  slaveAddr : BitVec 7
  busState : BusState
  rxBuf : List Byte
  rxLen : Nat
  txBuf : Vector Byte 4
  txLen : Nat
  txIdx : Nat
  queue : List Word

/-- The state with its bus side replaced. -/
def State.withBusSide (b : BusSide) (s : State) : State :=
  { s with
    armed := b.armed, slaveAddr := b.slaveAddr, busState := b.busState, rxBuf := b.rxBuf, rxLen := b.rxLen,
    txBuf := b.txBuf, txLen := b.txLen, txIdx := b.txIdx, queue := b.queue }

theorem unpackChunk_withBusSide (d : DisplayString) (k : BitVec 3) (a b c : Char7) (x : BusSide) (s : State) :
    unpackChunk d k a b c (s.withBusSide x) = (unpackChunk d k a b c s).withBusSide x := by
  rcases Nat.lt_or_ge k.toNat 5 with hk | hk
  · have haccepted := unpackChunk_eq_chunkOver (d := d) a b c (hk := Nat.le_of_lt_succ hk)
    rw [haccepted, haccepted]
    cases d <;> rfl
  · rw [unpackChunk_rejected hk, unpackChunk_rejected hk]
    rfl

/-- A command commutes with any change of the bus side. -/
theorem exec_withBusSide {i : Instr} {s t : State} (x : BusSide) (h : exec i s = .next t) :
    exec i (s.withBusSide x) = .next (t.withBusSide x) := by
  cases i with
  | strchunk d k a b c =>
    cases h
    exact congrArg Host.Outcome.next (unpackChunk_withBusSide d k a b c x s)
  | setwave | setfreq | query | ign2 | ign3 | ign4 | ign6 =>
    cases h
    rfl

/-- Settles O16: every command completes, and commutes with the change of the bus side. -/
theorem commandsNeverTouchBusState : Obligations.CommandsNeverTouchBusState := by
  intro i s armed addr b rx rl tx tl ti q
  obtain ⟨t, ht⟩ := exec_completes i s
  exact ⟨t, ht, exec_withBusSide ⟨armed, addr, b, rx, rl, tx, tl, ti, q⟩ ht⟩

/-! ### The turn that executes a word (R200, R201) -/

/-- With a word in `DISP_WORD`, CORE's turn is its execute stage (R200). -/
theorem coreTurn_word {s : State} {w : Word} (hd : s.dispWord = some w) : coreTurn s = executeStage w s := by
  simp only [coreTurn, hd]

/-- The execute stage runs the decoded command and empties `DISP_WORD`; as no command sets `FAULT`, it goes on
(R200). -/
theorem executeStage_of_exec {s t : State} {w : Word} (hf : s.fault = false) (h : exec (decode w) s = .next t) :
    executeStage w s = .next { t with dispWord := none } := by
  have hnofault : t.fault = false := (exec_keeps_fault h).trans hf
  simp only [executeStage, h]
  exact settle_of_noFault hnofault

/-- Settles O50: CORE's step is its turn, which is the execute stage of the word. -/
theorem stepRunsDecodedCommand : Obligations.StepRunsDecodedCommand := by
  intro s w hv hf hc hd
  obtain ⟨t, ht⟩ := exec_completes (decode w) s.spendTurn
  refine ⟨t, ht, ?_⟩
  rw [step_of_core hv hf hc, coreTurn_word (s := s.spendTurn) hd, executeStage_of_exec (s := s.spendTurn) hf ht]

end Sys2Proof.Machine
end

section
/-! PROOFS of the statements of 43_string_chunk_codec.md: the sender's encoder as one formula, the terminator of an
accepted chunk, and the chunk that is rejected. -/

namespace Sys2Proof.Machine

/-! ### `packChunk` as one formula (R235) -/

/-- A value put in its place in the payload stands at the same place of the word, as none of its bits is cut off. -/
theorem setWidth_placed_of_le {l m n k : Nat} (x : BitVec n) (hn : n + k ≤ l) :
    (x.setWidth l <<< k).setWidth m = x.setWidth m <<< k := by
  ext i hi
  by_cases hk : i < k
  · simp [hk]
  · by_cases hl : i < l
    · have : i - k < l := by omega
      simp [*]
    · have : x.getLsbD (i - k) = false := BitVec.getLsbD_of_ge x _ (by omega)
      simp [*]

/-- Bit 25 of a chunk's word, as a 32-bit number: 0 for the splash text, 1 for the companion-address text (R105). -/
theorem setWidth_targetBit (d : DisplayString) :
    (targetBit d).setWidth 32 = if d = .companion then 1#32 else 0#32 := by
  cases d <;> rfl

/-- Settles O8: the payload's fields stand at the same places of the word, and `packChunk` is the encoder, whose words
decode to what they encode. -/
theorem packChunkFormula : Obligations.PackChunkFormula := by
  intro d k a b c
  refine ⟨?_, decodeOfEncode (.strchunk d k a b c)⟩
  have htag : (7 : BitVec 3).setWidth 32 <<< 29 = 0xE0000000#32 := by decide
  simp (disch := decide) only [packChunk, encode, commandWord, BitVec.setWidth_or, setWidth_placed_of_le,
    BitVec.setWidth_setWidth, setWidth_targetBit, htag, BitVec.or_assoc]

/-! ### The terminator ends the text (R14, R236) -/

/-- The shown text is a prefix of the string that holds no terminator, so it ends before every terminator (R14). -/
theorem length_shownText_le {v : Vector Byte 17} {i : Nat} (hi : i < 17) (hzero : v[i] = 0) :
    (shownText v).length ≤ i := by
  by_contra hlong
  have hlt : i < (shownText v).length := Nat.lt_of_not_le hlong
  have hprefix : shownText v <+: v.toList := List.takeWhile_prefix _
  have hbyte : (shownText v)[i] = v[i] := by rw [hprefix.getElem hlt, Vector.getElem_toList]
  have hnonzero : ∀ b ∈ shownText v, (b != 0) = true := fun _ => List.mem_takeWhile_imp
  have hbyte0 := hnonzero _ (List.getElem_mem hlt)
  simp [hbyte, hzero] at hbyte0

/-- A string with a chunk written at `off` holds the terminator at `off + 3` (R231). -/
theorem getElem_of_chunkWritten {old v : Vector Byte 17} {off : Nat} {a b c : Char7}
    (h : chunkWritten old v off a b c) (hoff : off + 3 < 17) : v[off + 3] = 0 := by
  simpa using h (off + 3) hoff

/-- Settles O18: the chunk's terminator is in the buffer, at `3 * slot + 3`, and the text ends before it. -/
theorem chunkTerminatorEndsText : Obligations.ChunkTerminatorEndsText := by
  intro d k a b c s hk
  refine ⟨_, exec_strchunk_accepted d a b c s hk, ?_⟩
  have hoff : chunkOffset k = 3 * k.toNat := Nat.mul_comm ..
  rw [State.str_setChg, State.str_setStr, hoff]
  have hfits : 3 * k.toNat + 3 < 17 := by omega
  exact length_shownText_le hfits (getElem_of_chunkWritten (chunkWritten_chunkOver _ a b c (s.str d)) hfits)

/-! ### The rejected chunk (R232, R234) -/

/-- Settles O13: the chunk does not fit the buffer, so the unpacker only logs. -/
theorem chunkRejectedResult : Obligations.ChunkRejectedResult := by
  intro d k a b c s hk
  rw [exec, execStrchunk, unpackChunk_rejected hk, State.log]

end Sys2Proof.Machine
end

section
/-! PROOFS of the statements of 44_frequency_codec.md. First the constants of a valid configuration; then two readings of
`freqToReg`, as plain rounding cut off at `RSAT` and by its remainder, from which the other statements follow. -/

namespace Sys2Proof.Machine

/-! ### The constants (R260, R261, R268) -/

/-- The clock of a valid configuration is at least 268,436 Hz (R261). -/
theorem mclk_ge_of_valid {c : Config} (h : c.valid = true) : 268436 ≤ c.mclk := by
  simp only [Config.valid, Config.mclkOk, Bool.and_eq_true, decide_eq_true_eq] at h
  obtain ⟨-, hclock, -⟩ := h
  exact hclock

/-- The least clock of R261 is the least one with a divisor that is not 0 (R268). -/
theorem divisor_pos {c : Config} (h : c.valid = true) : 0 < c.divisor := by
  have hclock := mclk_ge_of_valid h
  rw [divisor_eq]
  omega

theorem half_lt_divisor {c : Config} (h : c.valid = true) : c.half < c.divisor := by
  rw [half_eq]
  exact Nat.div_lt_self (divisor_pos h) (by decide)

/-- The largest sum the codec forms fits 64 bits (R268). -/
theorem fmax_add_half_lt {c : Config} (h : c.valid = true) : c.fmax + c.half < 2 ^ 64 := by
  have hclock := mclk_lt_of_valid h
  have hdivisor := divisor_lt h
  have hhalf := half_lt_divisor h
  rw [Config.fmax]
  omega

/-! ### Order (R267) -/

theorem freqToReg_mono (c : Config) {x y : Nat} (hxy : x ≤ y) : freqToReg c x ≤ freqToReg c y :=
  Nat.div_le_div_right (Nat.add_le_add_right (min_le_min_right c.fmax hxy) c.half)

theorem regToFreq_mono (c : Config) {x y : Nat} (hxy : x ≤ y) : regToFreq c x ≤ regToFreq c y :=
  Nat.mul_le_mul_right c.divisor hxy

theorem regToFreq_strictMono {c : Config} (h : c.valid = true) {x y : Nat} (hxy : x < y) :
    regToFreq c x < regToFreq c y :=
  Nat.mul_lt_mul_of_pos_right hxy (divisor_pos h)

/-- Settles O23: `freqToReg` is a minimum, a sum and a quotient, each non-decreasing; `regToFreq` is a product with a
positive divisor. -/
theorem codecMonotone : Obligations.CodecMonotone := fun c _ _ hv =>
  ⟨freqToReg_mono c, regToFreq_strictMono hv⟩

/-! ### `freqToReg` as rounding that saturates (R262, R265, R266) -/

/-- The cut at `FMAX` before the rounding is a cut at `RSAT` after it. -/
theorem freqToReg_eq_min (c : Config) (f : Nat) : freqToReg c f = min ((f + c.half) / c.divisor) c.rsat := by
  have hround : Monotone fun g => (g + c.half) / c.divisor := fun _ _ hxy =>
    Nat.div_le_div_right (Nat.add_le_add_right hxy c.half)
  calc freqToReg c f
    _ = min ((f + c.half) / c.divisor) ((c.fmax + c.half) / c.divisor) := hround.map_min
    _ = min ((f + c.half) / c.divisor) c.rsat := by rw [Config.rsat, freqToReg, min_self]

theorem freqToReg_le_rsat (c : Config) (f : Nat) : freqToReg c f ≤ c.rsat := by
  rw [freqToReg_eq_min]
  exact Nat.min_le_right ..

theorem freqToReg_of_fmax_le {c : Config} {f : Nat} (hf : c.fmax ≤ f) : freqToReg c f = c.rsat :=
  le_antisymm (freqToReg_le_rsat c f) (freqToReg_mono c hf)

/-- A multiple of `D` rounds to itself, since `H < D`; so only the cut at `RSAT` is left of the round trip (R265). -/
theorem freqToReg_regToFreq {c : Config} (h : c.valid = true) (reg : Nat) :
    freqToReg c (regToFreq c reg) = min reg c.rsat := by
  have hround : (reg * c.divisor + c.half) / c.divisor = reg := by
    rw [Nat.add_comm, Nat.add_mul_div_right _ _ (divisor_pos h), Nat.div_eq_of_lt (half_lt_divisor h), Nat.zero_add]
  rw [freqToReg_eq_min, regToFreq, hround]

/-- Settles O20: `RSAT` is a tuning word, and every product is at most that of 29 and 35 bits. -/
theorem codecConstantsInRange : Obligations.CodecConstantsInRange := fun c hv =>
  ⟨divisor_pos hv, half_lt_divisor hv, freqToReg_lt hv c.fmax, fmax_add_half_lt hv, freqToReg_le_rsat c,
    fun _ => regToFreq_lt hv⟩

/-- Settles O21: the two sides of the minimum of `reg` and `RSAT`. -/
theorem tuningRoundTrip : Obligations.TuningRoundTrip := by
  intro c reg hv
  rw [freqToReg_regToFreq hv]
  exact ⟨Nat.min_eq_left, fun hreg => Nat.min_eq_right hreg.le⟩

/-- Settles O22: `freqToReg f` is at most `RSAT`, so it survives the round trip. -/
theorem nearestFreqIdempotent : Obligations.NearestFreqIdempotent := by
  intro c f hv
  have hword : freqToReg c (nearestFreq c f) = freqToReg c f := by
    rw [nearestFreq, freqToReg_regToFreq hv, Nat.min_eq_left (freqToReg_le_rsat c f)]
  rw [nearestFreq, hword, nearestFreq]

/-! ### The remainder of the rounding (R262, R264, R269) -/

/-- Adding `H` before the division carries into the quotient exactly when the remainder is at least `D - H` (R262). -/
theorem freqToReg_eq_div_add_carry {c : Config} (h : c.valid = true) (f : Nat) :
    freqToReg c f =
      min f c.fmax / c.divisor + if c.divisor ≤ min f c.fmax % c.divisor + c.half then 1 else 0 := by
  rw [freqToReg, Nat.add_div (divisor_pos h), Nat.div_eq_of_lt (half_lt_divisor h),
    Nat.mod_eq_of_lt (half_lt_divisor h), Nat.add_zero]

/-- Settles O25: with the carry, without it, and above `FMAX`. -/
theorem freqToRegRounding : Obligations.FreqToRegRounding := by
  intro c f hv
  refine ⟨fun hup => ?_, fun hdown => ?_, fun hf => freqToReg_of_fmax_le hf.le⟩
  · rw [freqToReg_eq_div_add_carry hv, if_pos (Nat.sub_le_iff_le_add.1 hup)]
  · rw [freqToReg_eq_div_add_carry hv, if_neg (Nat.not_le.2 (Nat.lt_sub_iff_add_lt.1 hdown)), Nat.add_zero]

/-- `nearestFreq` is what the division took from the rounded sum: the sum less its remainder (R264). -/
theorem nearestFreq_add_mod (c : Config) (f : Nat) :
    nearestFreq c f + (min f c.fmax + c.half) % c.divisor = min f c.fmax + c.half :=
  Nat.div_add_mod' ..

theorem nearestFreq_le (c : Config) (f : Nat) : nearestFreq c f ≤ min f c.fmax + c.half :=
  Nat.div_mul_le_self ..

/-- Settles O24: the distance is `H` less the remainder, which lies between 0 and `D - 1`. -/
theorem nearestFreqWithinHalfStep : Obligations.NearestFreqWithinHalfStep := by
  intro c f hv hf
  have hsum := nearestFreq_add_mod c f
  have hrem := Nat.mod_lt (min f c.fmax + c.half) (divisor_pos hv)
  rw [Nat.min_eq_left hf] at hsum hrem
  omega

/-- Settles O26: the rounded sum is at most `FMAX + H`, and the tuning word at most `RSAT`; the last clause is an
evaluation. -/
theorem nearestFreqAboveMax : Obligations.NearestFreqAboveMax := by
  refine ⟨fun c f _ => ⟨?_, fun hrsat => ?_⟩, by decide⟩
  · exact (nearestFreq_le c f).trans (Nat.add_le_add_right (Nat.min_le_right ..) c.half)
  · exact (regToFreq_mono c (freqToReg_le_rsat c f)).trans hrsat

end Sys2Proof.Machine
end

section
/-! PROOF of the statement about the sample words of 95_test_vectors.md L2.3 to L2.7: each word's tag picks its row, and
the row's fields are taken out of the word. -/

namespace Sys2Proof.Machine

/-- Settles O5, word by word: the tag selects the decoder's rule, and the fields are evaluations. -/
theorem sampleWordsDecode : Obligations.SampleWordsDecode := by
  refine ⟨?setwaveSquare, ?setwaveTriangle, ?setfreq, ?setfreqMax, ?ign2, ?ign3, ?ign4, ?query, ?ign6, ?chunkSplash,
    ?chunkCompanion⟩
  case setwaveSquare | setwaveTriangle => exact decode_tag_zero rfl
  case setfreq | setfreqMax => exact decode_tag_one rfl
  case ign2 => exact decode_tag_two rfl
  case ign3 => exact decode_tag_three rfl
  case ign4 => exact decode_tag_four rfl
  case query => exact decode_tag_five rfl
  case ign6 => exact decode_tag_six rfl
  case chunkSplash | chunkCompanion => exact decode_tag_seven rfl

end Sys2Proof.Machine
end
